-- ==== Sys2Proof/Word.lean ====
section
/-!
DEFINITION. The word types of the APU core: bus bytes and addresses (rule R12), the 11-bit timer
period (R12, R30), and the 26-bit operation word in which the spec writes a host operation (R80).
-/

namespace Sys2Proof

/-- One byte of bus data (R12, R61). -/
abbrev Byte := BitVec 8

/-- A 16-bit bus address (R12, R60). -/
abbrev Addr := BitVec 16

/-- An 11-bit timer period or timer counter (R12, R30, R31). -/
abbrev Period := BitVec 11

/-- A 26-bit operation word: kind, address and data of one host operation (R80). -/
abbrev OpWord := BitVec 26

end Sys2Proof
end

