-- ==== Sys2Proof/Syntax.lean ====
section
/-!
DEFINITION. The operations of the APU core, one constructor per row of spec/opcode_table.json.
The core has no instruction set: the "instructions" are the host's operations on it (rules R3, R80).
Operands are the fields of the register formats R84 to R91, pulled out of the data byte at decode
time, each already at its own width (R94: "every field is masked to its valid width at decode time").
-/

namespace Sys2Proof

/-- The two modes of the frame sequencer: `fourStep` is the bit value 0, `fiveStep` is 1 (R51, R91). -/
inductive FrameMode where
  | fourStep
  | fiveStep
deriving DecidableEq, Repr

/-- The host operations, in the order of spec/opcode_table.json. -/
inductive Instr where
  /-- WRITE $4000, format SQCTRL (R84, R100). -/
  | wrSq1Ctrl (duty : BitVec 2) (lengthHalt : Bool) (constantVolume : Bool) (volume : BitVec 4)
  /-- WRITE $4001, format SQSWEEP (R85, R101). -/
  | wrSq1Sweep (enabled : Bool) (period : BitVec 3) (negate : Bool) (shift : BitVec 3)
  /-- WRITE $4002, format TLO (R86, R103). -/
  | wrSq1Tlo (low : Byte)
  /-- WRITE $4003, format THI (R87, R104). -/
  | wrSq1Thi (index : BitVec 5) (high : BitVec 3)
  /-- WRITE $4004, format SQCTRL (R84, R105). -/
  | wrSq2Ctrl (duty : BitVec 2) (lengthHalt : Bool) (constantVolume : Bool) (volume : BitVec 4)
  /-- WRITE $4005, format SQSWEEP (R85, R106). -/
  | wrSq2Sweep (enabled : Bool) (period : BitVec 3) (negate : Bool) (shift : BitVec 3)
  /-- WRITE $4006, format TLO (R86, R107). -/
  | wrSq2Tlo (low : Byte)
  /-- WRITE $4007, format THI (R87, R108). -/
  | wrSq2Thi (index : BitVec 5) (high : BitVec 3)
  /-- WRITE $4008, format TRICTRL (R88, R109). -/
  | wrTriCtrl (control : Bool) (reload : BitVec 7)
  /-- WRITE $400A, format TLO (R86, R111). -/
  | wrTriTlo (low : Byte)
  /-- WRITE $400B, format THI (R87, R112). -/
  | wrTriThi (index : BitVec 5) (high : BitVec 3)
  /-- WRITE $4015, format STATUSW: the enables of Square1, Square2, Triangle, noise and DMC (R89, R115). -/
  | wrStatus (square1 : Bool) (square2 : Bool) (triangle : Bool) (noise : Bool) (dmc : Bool)
  /-- WRITE $4017, format FRAME (R91, R116). -/
  | wrFrame (mode : FrameMode) (irqInhibit : Bool)
  /-- WRITE of any address no other row decodes; both operands are unused (R110). -/
  | wrIgnored (addr : Addr) (data : Byte)
  /-- READ $4015 (R90, R140). -/
  | rdStatus
  /-- READ of any other address (R141). -/
  | rdZero (addr : Addr)
  /-- TICK: one CPU cycle (R150). -/
  | tick
  /-- SAMPLE: read the mixer (R244). -/
  | sample
deriving DecidableEq, Repr

/-- The mnemonic of an operation, as spec/opcode_table.json spells it. -/
def Instr.mnemonic : Instr → String
  | .wrSq1Ctrl .. => "WR_SQ1_CTRL"
  | .wrSq1Sweep .. => "WR_SQ1_SWEEP"
  | .wrSq1Tlo .. => "WR_SQ1_TLO"
  | .wrSq1Thi .. => "WR_SQ1_THI"
  | .wrSq2Ctrl .. => "WR_SQ2_CTRL"
  | .wrSq2Sweep .. => "WR_SQ2_SWEEP"
  | .wrSq2Tlo .. => "WR_SQ2_TLO"
  | .wrSq2Thi .. => "WR_SQ2_THI"
  | .wrTriCtrl .. => "WR_TRI_CTRL"
  | .wrTriTlo .. => "WR_TRI_TLO"
  | .wrTriThi .. => "WR_TRI_THI"
  | .wrStatus .. => "WR_STATUS"
  | .wrFrame .. => "WR_FRAME"
  | .wrIgnored .. => "WR_IGNORED"
  | .rdStatus => "RD_STATUS"
  | .rdZero .. => "RD_ZERO"
  | .tick => "TICK"
  | .sample => "SAMPLE"

end Sys2Proof
end

