-- ==== Sys2Proof/Config.lean ====
section
/-!
DEFINITION. The configuration of an APU core: the parameters of rule R13, which the spec leaves to
the model ("each is a configuration value the model takes as an argument"). A machine carries one
`Config` from power-on on, and no operation writes it (R58). The defaults stand in Machine/Tables.lean.
`CPU_CLOCK_HZ` is no field: no state rule reads it, and the formulas of Machine/Timing.lean take it as an argument.
-/

namespace Sys2Proof

/-- A lookup table of exactly `n` entries (R12, R58). -/
structure Table (α : Type) (n : Nat) where
  entries : List α
  size : entries.length = n
deriving DecidableEq, Repr

/-- The entry at index `i` of a table. -/
def Table.get {α : Type} {n : Nat} (t : Table α n) (i : Nat) (h : i < n) : α :=
  t.entries[i]'(t.size.symm ▸ h)

/-- Which clocks a frame step sends: the quarter-frame clock (Q) and the half-frame clock (H) (R221). -/
structure FrameAction where
  quarter : Bool
  half : Bool
deriving DecidableEq, Repr

/-- The configuration parameters of rule R13. -/
structure Config where
  /-- `LENGTH_TABLE`, 32 entries of 8 bits. -/
  lengthTable : Table Byte 32
  /-- `DUTY_TABLE`, 4 patterns of 8 bits, position 0 first. -/
  dutyTable : Table (Table Bool 8) 4
  /-- `TRI_TABLE`, 32 entries of 4 bits. -/
  triTable : Table (BitVec 4) 32
  /-- `PULSE_MIX`, 31 rationals. -/
  pulseMix : Table Rat 31
  /-- `TND_MIX`, 203 rationals. -/
  tndMix : Table Rat 203
  /-- `QUARTER_FRAME_CYCLES`. The step offsets of an evenly spaced configuration are its multiples (R221);
  no state rule reads it beside them. -/
  quarterFrameCycles : Nat
  /-- `FRAME_STEP_CYCLES_4`. -/
  frameStepCycles4 : Table Nat 4
  /-- `FRAME_STEP_CYCLES_5`. -/
  frameStepCycles5 : Table Nat 5
  /-- `FRAME_ACTIONS_4`. -/
  frameActions4 : Table FrameAction 4
  /-- `FRAME_ACTIONS_5`. -/
  frameActions5 : Table FrameAction 5
  /-- `SAMPLE_PERIOD`: `none`, or a positive natural. -/
  samplePeriod : Option Nat
deriving DecidableEq, Repr

/-- What the spec asks of a configuration: the step offsets are strictly increasing cycle counts (R221),
the first of them at least one TICK after the start, and a sample period is positive (R13, R245). -/
abbrev Config.WellFormed (c : Config) : Prop :=
  (0 :: c.frameStepCycles4.entries).Pairwise (· < ·) ∧
  (0 :: c.frameStepCycles5.entries).Pairwise (· < ·) ∧
  c.samplePeriod ≠ some 0

end Sys2Proof
end

