-- ==== Sys2Proof/Machine/Tables.lean ====
section
/-!
DEFINITION. The default configuration: the values rule R13 gives for the parameters it leaves to the
model, each with the ground R13 names. The tables that the spec takes from general knowledge are
marked UNVERIFIED (log entries 6 and 7).
-/

namespace Sys2Proof.Machine

/-- `LENGTH_TABLE`, index 0 to 31 (R13, R93; decision D8; UNVERIFIED, log entry 6). -/
def defaultLengthTable : Table Byte 32 :=
  ⟨[10, 254, 20, 2, 40, 4, 80, 6, 160, 8, 60, 10, 14, 12, 26, 14,
    12, 16, 24, 18, 48, 20, 96, 22, 192, 24, 72, 26, 16, 28, 32, 30], rfl⟩

/-- One duty pattern from its eight bits, position 0 leftmost. -/
def dutyRow (p0 p1 p2 p3 p4 p5 p6 p7 : Nat) : Table Bool 8 :=
  ⟨[p0, p1, p2, p3, p4, p5, p6, p7].map (· == 1), rfl⟩

/-- `DUTY_TABLE`: 12.5%, 25%, 50% and 75% (R13; decision D9; UNVERIFIED, log entry 6). -/
def defaultDutyTable : Table (Table Bool 8) 4 :=
  ⟨[dutyRow 0 1 0 0 0 0 0 0, dutyRow 0 1 1 0 0 0 0 0,
    dutyRow 0 1 1 1 1 0 0 0, dutyRow 1 0 0 1 1 1 1 1], rfl⟩

/-- `TRI_TABLE`: the ramp 0, 1, ..., 15, 15, 14, ..., 0 (R13, R241; decision D10; log entry 6). -/
def defaultTriTable : Table (BitVec 4) 32 :=
  ⟨[0, 1, 2, 3, 4, 5, 6, 7, 8, 9, 10, 11, 12, 13, 14, 15,
    15, 14, 13, 12, 11, 10, 9, 8, 7, 6, 5, 4, 3, 2, 1, 0], rfl⟩

/-- `PULSE_MIX[k] = 9552 k / (812800 + 10000 k)`, which is 0 at k = 0 (R243; decision D11; UNVERIFIED,
log entry 6). -/
def pulseMixEntry (k : Nat) : Rat := mkRat (9552 * (k : Int)) (812800 + 10000 * k)

/-- `TND_MIX[k] = 16367 k / (2432900 + 10000 k)`, which is 0 at k = 0 (R243; decision D11; UNVERIFIED,
log entry 6). -/
def tndMixEntry (k : Nat) : Rat := mkRat (16367 * (k : Int)) (2432900 + 10000 * k)

/-- `PULSE_MIX`, index 0 to 30 (R13, R243). -/
def defaultPulseMix : Table Rat 31 := ⟨(List.range 31).map pulseMixEntry, by simp⟩

/-- `TND_MIX`, index 0 to 202 (R13, R243). -/
def defaultTndMix : Table Rat 203 := ⟨(List.range 203).map tndMixEntry, by simp⟩

/-- The default of `QUARTER_FRAME_CYCLES` (R13; decision D5; log entry 7). -/
def defaultQuarterFrameCycles : Nat := 7457

/-- `FRAME_STEP_CYCLES_4` for a quarter frame of `quarter` cycles: k x `quarter` for k = 1 to 4 (R221;
decision D5). -/
def evenStepCycles4 (quarter : Nat) : Table Nat 4 := ⟨[1, 2, 3, 4].map (· * quarter), rfl⟩

/-- `FRAME_STEP_CYCLES_5` for a quarter frame of `quarter` cycles: k x `quarter` for k = 1 to 5 (R221;
decision D5). -/
def evenStepCycles5 (quarter : Nat) : Table Nat 5 := ⟨[1, 2, 3, 4, 5].map (· * quarter), rfl⟩

/-- A step that sends the quarter-frame clock only. -/
def stepQ : FrameAction := ⟨true, false⟩

/-- A step that sends both clocks. -/
def stepQH : FrameAction := ⟨true, true⟩

/-- `FRAME_ACTIONS_4` (R221; decision D6; log entry 7). -/
def defaultFrameActions4 : Table FrameAction 4 := ⟨[stepQ, stepQH, stepQ, stepQH], rfl⟩

/-- `FRAME_ACTIONS_5` (R221; decision D6; log entry 7). -/
def defaultFrameActions5 : Table FrameAction 5 := ⟨[stepQ, stepQH, stepQ, stepQH, stepQH], rfl⟩

/-- The configuration of the spec's defaults with `QUARTER_FRAME_CYCLES` = `quarter`: the default step offsets
follow that parameter (R13, R221). `SAMPLE_PERIOD` is OPEN in R13; `none` is the model's DESIGN CHOICE for the machine
that `State.reset` describes (log entry 4). -/
def configAtQuarter (quarter : Nat) : Config where
  lengthTable := defaultLengthTable
  dutyTable := defaultDutyTable
  triTable := defaultTriTable
  pulseMix := defaultPulseMix
  tndMix := defaultTndMix
  quarterFrameCycles := quarter
  frameStepCycles4 := evenStepCycles4 quarter
  frameStepCycles5 := evenStepCycles5 quarter
  frameActions4 := defaultFrameActions4
  frameActions5 := defaultFrameActions5
  samplePeriod := none

/-- The configuration of the spec's defaults, every parameter at the default of R13. -/
def defaultConfig : Config := configAtQuarter defaultQuarterFrameCycles

end Sys2Proof.Machine
end

