-- ==== Sys2Proof/Machine/State.lean ====
section
/-!
DEFINITION. The state of the APU core as plain data: every field of spec/10_state.md under the spec's
name, grouped into the units of rule R15 (`sq[1]`, `sq[2]`, `tri`, `fs`, `apu`); beside them the
instance's configuration (R13, R58) and the host interface (R11, R16, R275): the operation words the
host has issued and the core has not yet applied, and the values the host has got back.
-/

namespace Sys2Proof.Machine

/-- The state of one square channel (R24 to R41). -/
structure Square where
  /-- Set and cleared only by a WRITE of $4015 (R24). -/
  enabled : Bool
  /-- The length counter, 0 to 255 (R25). -/
  lengthCounter : BitVec 8
  /-- Length halt, and the envelope's loop flag (R26). -/
  lengthHalt : Bool
  /-- Constant volume; the source's `envelopeDisabled` (R27). -/
  constantVolume : Bool
  /-- The constant volume, and the envelope's divider period (R28). -/
  volume : BitVec 4
  /-- The row of the duty table (R29). -/
  duty : BitVec 2
  /-- The timer period (R30). -/
  timerPeriod : Period
  /-- The timer's down-counter (R31). -/
  timerCounter : Period
  /-- The position in the 8-step duty pattern (R32). -/
  sequencePosition : BitVec 3
  /-- The envelope's start flag (R33). -/
  envelopeStart : Bool
  /-- The envelope's divider (R34). -/
  envelopeDivider : BitVec 4
  /-- The envelope's decay level (R35). -/
  envelopeDecay : BitVec 4
  /-- Sweep enabled (R36). -/
  sweepEnabled : Bool
  /-- The sweep divider's reload value (R37). -/
  sweepPeriod : BitVec 3
  /-- The sweep target lies below the period (R38). -/
  sweepNegate : Bool
  /-- The sweep's shift amount (R39). -/
  sweepShift : BitVec 3
  /-- The sweep divider reloads on the next half-frame clock (R40). -/
  sweepReload : Bool
  /-- The sweep's divider (R41). -/
  sweepDivider : BitVec 3
deriving DecidableEq, Repr

/-- The state of the triangle channel (R42 to R50). -/
structure Triangle where
  /-- Set and cleared only by a WRITE of $4015 (R42). -/
  enabled : Bool
  /-- The length counter, 0 to 255 (R43). -/
  lengthCounter : BitVec 8
  /-- The control flag: length halt, and the linear counter's hold (R44). -/
  controlFlag : Bool
  /-- The linear counter's reload value (R45). -/
  linearReloadValue : BitVec 7
  /-- The linear counter (R46). -/
  linearCounter : BitVec 7
  /-- The linear counter's reload flag (R47). -/
  linearReload : Bool
  /-- The timer period (R48). -/
  timerPeriod : Period
  /-- The timer's down-counter (R49). -/
  timerCounter : Period
  /-- The position in the 32-step ramp (R50). -/
  sequencePosition : BitVec 5
deriving DecidableEq, Repr

/-- The state of the frame sequencer (R51 to R54). -/
structure FrameSequencer where
  /-- 4-step or 5-step (R51). -/
  mode : FrameMode
  /-- The 0-based index of the next step, 0 to 4 (R52). -/
  stepIndex : Fin 5
  /-- TICKs since the current sequence began (R53). -/
  cycleCounter : Nat
  /-- Bit 6 of the last $4017 write; no rule reads it (R54). -/
  frameIrqInhibit : Bool
deriving DecidableEq, Repr

/-- The global state (R55 to R57). -/
structure Global where
  /-- The parity of the TICK; the square timers are clocked where it is 1 (R55, R152). -/
  apuParity : BitVec 1
  /-- The noise channel's stub flag; no rule reads it (R56). -/
  noiseEnabled : Bool
  /-- The DMC channel's stub flag; no rule reads it (R56). -/
  dmcEnabled : Bool
  /-- TICKs toward the next scheduled sample (R57). -/
  sampleCounter : Nat
deriving DecidableEq, Repr

/-- One value the host gets back (R11): the byte of a READ, the amplitude of a SAMPLE, or the
amplitude a TICK emits when the sample schedule fires. -/
inductive Output where
  | readByte (b : Byte)
  | sampled (a : Rat)
  | emitted (a : Rat)
deriving DecidableEq, Repr

/-- The state of one APU instance and its host interface. -/
structure State where
  /-- `s.sq[1]`. -/
  sq1 : Square
  /-- `s.sq[2]`. -/
  sq2 : Square
  /-- `s.tri`. -/
  tri : Triangle
  /-- `s.fs`. -/
  fs : FrameSequencer
  /-- `s.apu`. -/
  apu : Global
  /-- The instance's configuration: constant, written by no operation (R13, R58; log entry 3). -/
  config : Config
  /-- The model's own field: the operation words the host has issued and the core has not yet
  applied, in the order issued (R70, R275; log entry 1). -/
  pending : List OpWord
  /-- The observation of the run: the values the host has got back, oldest first (R11, R16; log entry 2). -/
  outputs : List Output
deriving DecidableEq, Repr

/-- Why a step could stop with a fault. No operation raises one (R260): the one reason named here is
the spec's own "fatal-class condition" (R264). -/
inductive Fault where
  /-- An internal invariant violation (R264). Raised by no meaning of this model: the invariants are
  stated and proved instead, as R264 asks; safe, since it never stops a run. -/
  | invariantViolation
deriving DecidableEq, Repr

/-- Why an operation could be refused. -/
inductive Refusal where
  /-- An operation without a meaning yet, named as the opcode table names it. Raised by no arm of
  `exec`: every operation has its meaning; safe. -/
  | notModelled (mnemonic : String)
deriving DecidableEq, Repr

/-- A square channel at power-on: every integer 0, every Boolean false (R23, R280). -/
def Square.powerOn : Square where
  enabled := false
  lengthCounter := 0#8
  lengthHalt := false
  constantVolume := false
  volume := 0#4
  duty := 0#2
  timerPeriod := 0#11
  timerCounter := 0#11
  sequencePosition := 0#3
  envelopeStart := false
  envelopeDivider := 0#4
  envelopeDecay := 0#4
  sweepEnabled := false
  sweepPeriod := 0#3
  sweepNegate := false
  sweepShift := 0#3
  sweepReload := false
  sweepDivider := 0#3

/-- The triangle channel at power-on (R23, R280). -/
def Triangle.powerOn : Triangle where
  enabled := false
  lengthCounter := 0#8
  controlFlag := false
  linearReloadValue := 0#7
  linearCounter := 0#7
  linearReload := false
  timerPeriod := 0#11
  timerCounter := 0#11
  sequencePosition := 0#5

/-- POWER_ON of an instance with configuration `c`: every state element zero or false, the frame
sequencer in 4-step mode, no operation issued and no value handed back yet (R23, R280). -/
def State.powerOn (c : Config) : State where
  sq1 := Square.powerOn
  sq2 := Square.powerOn
  tri := Triangle.powerOn
  fs := { mode := .fourStep, stepIndex := 0, cycleCounter := 0, frameIrqInhibit := false }
  apu := { apuParity := 0#1, noiseEnabled := false, dmcEnabled := false, sampleCounter := 0 }
  config := c
  pending := []
  outputs := []

/-- The machine right after reset: POWER_ON with the default configuration (R13, R280). -/
def State.reset : State := State.powerOn defaultConfig

end Sys2Proof.Machine
end

