-- ==== Sys2Proof/Machine/Ops.lean ====
section
/-!
DEFINITION. The named operations over the state that the meanings share: access to a square channel
by its index, handing a value back to the host, the length load R102 and the timer clock R153. The
core has no memory, takes no exception and returns from none (rules R20, R62, R260, R265, R266), so there is
no memory access and no exception entry here.
-/

namespace Sys2Proof.Machine

/-- The channel index n of a square channel (R2). -/
inductive SquareId where
  | one
  | two
deriving DecidableEq, Repr

/-- `s.sq[n]` (R15). -/
def State.square (s : State) : SquareId → Square
  | .one => s.sq1
  | .two => s.sq2

/-- `s.sq[n] <- q` (R15). -/
def State.setSquare (s : State) (n : SquareId) (q : Square) : State :=
  match n with
  | .one => { s with sq1 := q }
  | .two => { s with sq2 := q }

/-- `s.tri <- t` (R15). -/
def State.setTri (s : State) (t : Triangle) : State := { s with tri := t }

/-- `s.fs <- f` (R15). -/
def State.setFs (s : State) (f : FrameSequencer) : State := { s with fs := f }

/-- `s.apu <- g` (R15). -/
def State.setApu (s : State) (g : Global) : State := { s with apu := g }

/-- Hand a value back to the host: it joins the observation of the run (R11; `emit` of R16). -/
def State.respond (s : State) (o : Output) : State := { s with outputs := s.outputs ++ [o] }

/-- `LengthLoad(ch, I)`: the length counter after a high-byte write with load index `index`, on a
channel whose enable flag is `enabled` (R102, R93). -/
def lengthLoad (c : Config) (enabled : Bool) (index : BitVec 5) (counter : BitVec 8) : BitVec 8 :=
  if enabled then c.lengthTable.get index.toNat index.isLt else counter

/-- `TimerClock(ch, L)` for the sequence length L = 2 ^ `w`: the timer counter and the sequence
position after one clock of the channel's timer (R153). -/
def timerClock {w : Nat} (period counter : Period) (position : BitVec w) : Period × BitVec w :=
  if counter = 0#11 then (period, position + 1#w) else (counter - 1#11, position)

end Sys2Proof.Machine
end

