-- ==== Sys2Proof/Machine/Operands.lean ====
section
/-!
DEFINITION. Operand assembly (rules R92, R93) and the table lookups of the pseudocode: the two halves of
a timer period, and the rows of the configuration's tables that state selects.
-/

namespace Sys2Proof.Machine

/-- A period with new bits 7..0 and its old bits 10..8: `{ period[10:8], low }` (R92, R103). -/
def periodWithLow (period : Period) (low : Byte) : Period :=
  period.extractLsb' 8 3 ++ low

/-- A period with new bits 10..8 and its old bits 7..0: `{ high, period[7:0] }` (R92, R104). -/
def periodWithHigh (period : Period) (high : BitVec 3) : Period :=
  high ++ period.extractLsb' 0 8

/-- `DUTY_TABLE[duty][position]` (R93, R240). -/
def dutyBit (c : Config) (duty : BitVec 2) (position : BitVec 3) : Bool :=
  (c.dutyTable.get duty.toNat duty.isLt).get position.toNat position.isLt

/-- `TRI_TABLE[position]` (R241). -/
def rampLevel (c : Config) (position : BitVec 5) : BitVec 4 :=
  c.triTable.get position.toNat position.isLt

/-- `N_m`, the number of steps of a mode (R221). -/
def stepCount : FrameMode → Nat
  | .fourStep => 4
  | .fiveStep => 5

/-- The step-offset table `FRAME_STEP_CYCLES_m` of a mode (R221). -/
def stepOffsets (c : Config) : FrameMode → List Nat
  | .fourStep => c.frameStepCycles4.entries
  | .fiveStep => c.frameStepCycles5.entries

/-- The action table `FRAME_ACTIONS_m` of a mode (R221). -/
def stepActions (c : Config) : FrameMode → List FrameAction
  | .fourStep => c.frameActions4.entries
  | .fiveStep => c.frameActions5.entries

/-- The step a mode takes at an index: its offset and its action. There is none exactly where the index
is at least `N_m`, which rule R52 excludes; see log entry 5. -/
def frameStepAt (c : Config) (m : FrameMode) (index : Fin 5) : Option (Nat × FrameAction) :=
  match (stepOffsets c m)[index.val]?, (stepActions c m)[index.val]? with
  | some offset, some action => some (offset, action)
  | _, _ => none

end Sys2Proof.Machine
end

