-- ==== Sys2Proof/Machine/Flags.lean ====
section
/-!
DEFINITION. The conditions the rules compute from the state: the core has no flags in the processor's
sense. They are the sweep target and mute (rules R190, R191), the envelope's volume (R183), the gates of
the channel outputs (R240, R241) and the status byte (R90, R140).
-/

namespace Sys2Proof.Machine

/-- What Square1's negated sweep target subtracts beyond the shifted period (R190; decision D15). -/
def negateOffset : SquareId → Int
  | .one => 1
  | .two => 0

/-- `SweepTarget(sq[n])`, a signed integer (R190). -/
def sweepTarget (n : SquareId) (q : Square) : Int :=
  let delta : Int := (q.timerPeriod.toNat >>> q.sweepShift.toNat : Nat)
  if q.sweepNegate then q.timerPeriod.toNat - delta - negateOffset n
  else q.timerPeriod.toNat + delta

/-- `SweepMute(sq[n])` (R191). -/
def sweepMute (n : SquareId) (q : Square) : Bool :=
  decide (sweepTarget n q < 0) || decide (sweepTarget n q > 0x7FF)

/-- `EnvelopeVolume(sq[n])` (R183). -/
def envelopeVolume (q : Square) : BitVec 4 :=
  if q.constantVolume then q.volume else q.envelopeDecay

/-- The gate of a square channel's output (R240). -/
def squareAudible (n : SquareId) (q : Square) : Bool :=
  q.enabled && decide (0 < q.lengthCounter.toNat) && decide (8 ≤ q.timerPeriod.toNat) && !sweepMute n q

/-- The gate of the triangle's output (R241). -/
def triangleAudible (t : Triangle) : Bool :=
  t.enabled && decide (0 < t.lengthCounter.toNat) && decide (0 < t.linearCounter.toNat)

/-- The byte a READ of $4015 returns: `000MNTBA`, with N and M always 0 (R90, R140). -/
def statusByte (s : State) : Byte :=
  (((0#5) ++ BitVec.ofBool (decide (0 < s.tri.lengthCounter.toNat)))
    ++ BitVec.ofBool (decide (0 < s.sq2.lengthCounter.toNat)))
    ++ BitVec.ofBool (decide (0 < s.sq1.lengthCounter.toNat))

/-- `BusRead(addr)`: the byte the bus returns at an address (R16, R83, R140, R141). -/
def busRead (s : State) (a : Addr) : Byte := if a = 0x4015 then statusByte s else 0#8

end Sys2Proof.Machine
end

