-- ==== Sys2Proof/Machine/Units.lean ====
section
/-!
DEFINITION. The units the frame sequencer clocks, one function per clock procedure of
spec/43_frame_units.md, and the timer stage of TICK (rules R151 to R155).
-/

namespace Sys2Proof.Machine

/-- `EnvelopeClock(sq[n])`: one quarter-frame clock of an envelope unit, whatever `constantVolume`
holds (R181, R182). -/
def envelopeClock (q : Square) : Square :=
  if q.envelopeStart then
    { q with envelopeStart := false, envelopeDecay := 15#4, envelopeDivider := q.volume }
  else if q.envelopeDivider = 0#4 then
    { q with
      envelopeDivider := q.volume
      envelopeDecay :=
        if q.envelopeDecay ≠ 0#4 then q.envelopeDecay - 1#4
        else if q.lengthHalt then 15#4 else q.envelopeDecay }
  else { q with envelopeDivider := q.envelopeDivider - 1#4 }

/-- The sweep unit updates the period on this half-frame clock (R192). -/
def sweepUpdates (n : SquareId) (q : Square) : Bool :=
  decide (q.sweepDivider = 0#3) && q.sweepEnabled && decide (q.sweepShift ≠ 0#3) && !sweepMute n q

/-- The sweep divider reloads on this half-frame clock: it has expired, or a write set the flag (R192). -/
def sweepReloads (q : Square) : Bool := decide (q.sweepDivider = 0#3) || q.sweepReload

/-- `SweepClock(sq[n])`: one half-frame clock of a sweep unit. The update and the reload both look at the
state before the clock; the update writes the period alone, so the order of the two is R192's (decision D14). -/
def sweepClock (n : SquareId) (q : Square) : Square :=
  { q with
    timerPeriod := if sweepUpdates n q then BitVec.ofInt 11 (sweepTarget n q) else q.timerPeriod
    sweepDivider := if sweepReloads q then q.sweepPeriod else q.sweepDivider - 1#3
    sweepReload := if sweepReloads q then false else q.sweepReload }

/-- One half-frame clock of a length counter whose halt flag is `halt`: it counts down to 0 and stays
there (R200). -/
def lengthStep (halt : Bool) (counter : BitVec 8) : BitVec 8 :=
  if counter ≠ 0#8 ∧ halt = false then counter - 1#8 else counter

/-- `LengthClock(sq[n])` (R200). -/
def squareLengthClock (q : Square) : Square :=
  { q with lengthCounter := lengthStep q.lengthHalt q.lengthCounter }

/-- `LengthClock(tri)`: the control flag is the triangle's halt (R200; decision D20). -/
def triangleLengthClock (t : Triangle) : Triangle :=
  { t with lengthCounter := lengthStep t.controlFlag t.lengthCounter }

/-- `LinearClock()`: one quarter-frame clock of the triangle's linear counter (R202). -/
def linearClock (t : Triangle) : Triangle :=
  { t with
    linearCounter :=
      if t.linearReload then t.linearReloadValue
      else if t.linearCounter ≠ 0#7 then t.linearCounter - 1#7 else t.linearCounter
    linearReload := if t.controlFlag then t.linearReload else false }

/-- The square timer: `TimerClock(sq[n], 8)`, whatever the channel's gates hold (R154). -/
def squareTimerClock (q : Square) : Square :=
  let (counter, position) := timerClock q.timerPeriod q.timerCounter q.sequencePosition
  { q with timerCounter := counter, sequencePosition := position }

/-- The triangle timer: `TimerClock(tri, 32)`, whatever the channel's gates hold (R155). -/
def triangleTimerClock (t : Triangle) : Triangle :=
  let (counter, position) := timerClock t.timerPeriod t.timerCounter t.sequencePosition
  { t with timerCounter := counter, sequencePosition := position }

/-- `TimerStep()`, stage 1 of every TICK: the triangle timer on every TICK, the square timers on the
TICKs whose parity is 1 before the toggle (R151, R152). -/
def timerStep (s : State) : State :=
  let clocked : State :=
    if s.apu.apuParity = 1#1 then
      { s with sq1 := squareTimerClock s.sq1, sq2 := squareTimerClock s.sq2 }
    else s
  { clocked with
    tri := triangleTimerClock s.tri
    apu := { s.apu with apuParity := 1#1 - s.apu.apuParity } }

end Sys2Proof.Machine
end

