-- ==== Sys2Proof/Machine/Sequencer.lean ====
section
/-!
DEFINITION. The frame sequencer (spec/44_frame_sequencer.md): the half-frame and quarter-frame clocks,
stage 2 of TICK, and the immediate clock of a 5-step $4017 write.
-/

namespace Sys2Proof.Machine

/-- `HalfFrame()`: the three length counters, then the two sweep units (R222). -/
def halfFrame (s : State) : State :=
  { s with
    sq1 := sweepClock .one (squareLengthClock s.sq1)
    sq2 := sweepClock .two (squareLengthClock s.sq2)
    tri := triangleLengthClock s.tri }

/-- `QuarterFrame()`: the two envelope units, then the linear counter (R223). -/
def quarterFrame (s : State) : State :=
  { s with
    sq1 := envelopeClock s.sq1
    sq2 := envelopeClock s.sq2
    tri := linearClock s.tri }

/-- The clocks a frame step sends: the half-frame clock before the quarter-frame clock (R220, R224). -/
def sendClocks (a : FrameAction) (s : State) : State :=
  let afterHalf := if a.half then halfFrame s else s
  if a.quarter then quarterFrame afterHalf else afterHalf

/-- The sequencer after a step has been taken: the next index, and after the last step of the mode the
start of the next sequence (R220). -/
def advanceStep (f : FrameSequencer) : FrameSequencer :=
  if f.stepIndex.val + 1 = stepCount f.mode then { f with stepIndex := 0, cycleCounter := 0 }
  else { f with stepIndex := f.stepIndex + 1 }

/-- `s.fs.cycleCounter <- s.fs.cycleCounter + 1` (R220). -/
def countCycle (s : State) : State :=
  s.setFs { s.fs with cycleCounter := s.fs.cycleCounter + 1 }

/-- `FrameTick()`, stage 2 of every TICK (R220). Where the index names no step of the mode, which no
run reaches (R59, R226), no step fires: DESIGN CHOICE, log entry 5. -/
def frameTick (s : State) : State :=
  match frameStepAt s.config s.fs.mode s.fs.stepIndex with
  | some (offset, action) =>
    if s.fs.cycleCounter + 1 = offset then
      let clocked := sendClocks action (countCycle s)
      clocked.setFs (advanceStep clocked.fs)
    else countCycle s
  | none => countCycle s

/-- `ImmediateFrameClock()`: the half-frame clock, then the quarter-frame clock (R225). -/
def immediateFrameClock (s : State) : State := quarterFrame (halfFrame s)

end Sys2Proof.Machine
end

