-- ==== Sys2Proof/Machine/Mixer.lean ====
section
/-!
DEFINITION. The output side of the core (spec/45_mixer.md): the channel outputs, the mixer and the
sample schedule of stage 3 of TICK.
-/

namespace Sys2Proof.Machine

/-- `SquareOutput(n)`, 0 to 15 (R240). -/
def squareOutput (s : State) (n : SquareId) : BitVec 4 :=
  let q := s.square n
  if squareAudible n q then
    if dutyBit s.config q.duty q.sequencePosition then envelopeVolume q else 0#4
  else 0#4

/-- `TriangleOutput()`, 0 to 15 (R241). -/
def triangleOutput (s : State) : BitVec 4 :=
  if triangleAudible s.tri then rampLevel s.config s.tri.sequencePosition else 0#4

/-- The index into `PULSE_MIX`: the sum of the two square outputs (R242). -/
def pulseIndex (s : State) : Nat := (squareOutput s .one).toNat + (squareOutput s .two).toNat

/-- The index into `TND_MIX`: three times the triangle's output, the noise and DMC inputs being 0 (R242). -/
def tndIndex (s : State) : Nat := 3 * (triangleOutput s).toNat + 2 * 0 + 0

theorem pulseIndex_lt (s : State) : pulseIndex s < 31 := by
  have h1 := (squareOutput s .one).isLt
  have h2 := (squareOutput s .two).isLt
  simp only [pulseIndex]; omega

theorem tndIndex_lt (s : State) : tndIndex s < 203 := by
  have h := (triangleOutput s).isLt
  simp only [tndIndex]; omega

/-- `Mix()`, the amplitude of the current state (R242). -/
def mix (s : State) : Rat :=
  s.config.pulseMix.get (pulseIndex s) (pulseIndex_lt s)
    + s.config.tndMix.get (tndIndex s) (tndIndex_lt s)

/-- The sample counter after a TICK, and whether the sample schedule fires on it (R247). -/
def sampleSchedule (period : Option Nat) (counter : Nat) : Nat × Bool :=
  match period with
  | none => (counter, false)
  | some p => if counter + 1 = p then (0, true) else (counter + 1, false)

/-- `SampleStep()`, stage 3 of every TICK: on the schedule's TICKs the amplitude is emitted (R247). -/
def sampleStep (s : State) : State :=
  let (counter, fires) := sampleSchedule s.config.samplePeriod s.apu.sampleCounter
  { s with
    apu := { s.apu with sampleCounter := counter }
    outputs := if fires then s.outputs ++ [.emitted (mix s)] else s.outputs }

end Sys2Proof.Machine
end

