-- ==== Sys2Proof/Machine/Clock.lean ====
section
/-!
DEFINITION. The two operations beside the bus: TICK (rule R150) and SAMPLE (rule R244).
-/

namespace Sys2Proof.Machine

/-- One CPU cycle: the timers, then the frame sequencer, then the sample schedule (R150). -/
def tickCycle (s : State) : State := sampleStep (frameTick (timerStep s))

/-- TICK (R150). -/
def execTick (s : State) : Host.Outcome State Fault Refusal := .next (tickCycle s)

/-- SAMPLE: hands the amplitude of the current state back and changes nothing else (R244). -/
def execSample (s : State) : Host.Outcome State Fault Refusal :=
  .next (s.respond (.sampled (mix s)))

end Sys2Proof.Machine
end

