-- ==== Sys2Proof/Machine/ControlWrites.lean ====
section
/-!
DEFINITION. The writes of the control registers $4015 and $4017, and the ignored writes
(spec/40_register_write.md, sections 4 and 5).
-/

namespace Sys2Proof.Machine

/-- A length counter after its channel's enable flag has been written: zeroed where the flag is
clear, unchanged where it is set (R115). -/
def gateLength (enabled : Bool) (counter : BitVec 8) : BitVec 8 := if enabled then counter else 0#8

/-- A square channel after its enable flag has been written (R115). -/
def enableSquare (enabled : Bool) (q : Square) : Square :=
  { q with enabled := enabled, lengthCounter := gateLength enabled q.lengthCounter }

/-- The triangle channel after its enable flag has been written (R115). -/
def enableTriangle (enabled : Bool) (t : Triangle) : Triangle :=
  { t with enabled := enabled, lengthCounter := gateLength enabled t.lengthCounter }

/-- WR_STATUS (R115). -/
def execWrStatus (square1 square2 triangle noise dmc : Bool) (s : State) :
    Host.Outcome State Fault Refusal :=
  .next
    { s with
      sq1 := enableSquare square1 s.sq1
      sq2 := enableSquare square2 s.sq2
      tri := enableTriangle triangle s.tri
      apu := { s.apu with noiseEnabled := noise, dmcEnabled := dmc } }

/-- WR_FRAME: the sequence restarts, and a 5-step write then clocks every frame unit once (R116, R225). -/
def execWrFrame (mode : FrameMode) (irqInhibit : Bool) (s : State) : Host.Outcome State Fault Refusal :=
  let restarted :=
    s.setFs { mode := mode, stepIndex := 0, cycleCounter := 0, frameIrqInhibit := irqInhibit }
  .next (if mode = .fiveStep then immediateFrameClock restarted else restarted)

/-- WR_IGNORED: both operands are unused and no state changes (R110). -/
def execWrIgnored (_addr : Addr) (_data : Byte) (s : State) : Host.Outcome State Fault Refusal :=
  .next s

end Sys2Proof.Machine
end

