-- ==== Sys2Proof/Machine/Reads.lean ====
section
/-!
DEFINITION. The register reads (spec/41_register_read.md): each hands one byte back to the host and
changes nothing else (rule R66).
-/

namespace Sys2Proof.Machine

/-- RD_STATUS (R140). -/
def execRdStatus (s : State) : Host.Outcome State Fault Refusal :=
  .next (s.respond (.readByte (statusByte s)))

/-- RD_ZERO: every address but $4015 reads 0, whatever was written there (R141). -/
def execRdZero (_addr : Addr) (s : State) : Host.Outcome State Fault Refusal :=
  .next (s.respond (.readByte 0#8))

end Sys2Proof.Machine
end

