-- ==== Sys2Proof/Machine/SquareWrites.lean ====
section
/-!
DEFINITION. The register writes of the two square channels, $4000 to $4007 (spec/40_register_write.md,
sections 1 and 2). The four writes are said once for a square channel; each operation is one of them on its channel.
-/

namespace Sys2Proof.Machine

/-- The control write of a square channel (R100, R105). -/
def writeSquareCtrl (duty : BitVec 2) (lengthHalt constantVolume : Bool) (volume : BitVec 4)
    (q : Square) : Square :=
  { q with duty := duty, lengthHalt := lengthHalt, constantVolume := constantVolume, volume := volume }

/-- The sweep write of a square channel; it also sets the reload flag (R101, R106). -/
def writeSquareSweep (enabled : Bool) (period : BitVec 3) (negate : Bool) (shift : BitVec 3)
    (q : Square) : Square :=
  { q with
    sweepEnabled := enabled
    sweepPeriod := period
    sweepNegate := negate
    sweepShift := shift
    sweepReload := true }

/-- The timer-low write of a square channel (R103, R107). -/
def writeSquareLow (low : Byte) (q : Square) : Square :=
  { q with timerPeriod := periodWithLow q.timerPeriod low }

/-- The timer-high write of a square channel: the period's high bits, the length load, the phase reset
and the envelope start (R102, R104, R108). -/
def writeSquareHigh (c : Config) (index : BitVec 5) (high : BitVec 3) (q : Square) : Square :=
  { q with
    timerPeriod := periodWithHigh q.timerPeriod high
    lengthCounter := lengthLoad c q.enabled index q.lengthCounter
    sequencePosition := 0#3
    envelopeStart := true }

/-- WR_SQ1_CTRL (R100). -/
def execWrSq1Ctrl (duty : BitVec 2) (lengthHalt constantVolume : Bool) (volume : BitVec 4) (s : State) :
    Host.Outcome State Fault Refusal :=
  .next (s.setSquare .one (writeSquareCtrl duty lengthHalt constantVolume volume s.sq1))

/-- WR_SQ1_SWEEP (R101). -/
def execWrSq1Sweep (enabled : Bool) (period : BitVec 3) (negate : Bool) (shift : BitVec 3) (s : State) :
    Host.Outcome State Fault Refusal :=
  .next (s.setSquare .one (writeSquareSweep enabled period negate shift s.sq1))

/-- WR_SQ1_TLO (R103). -/
def execWrSq1Tlo (low : Byte) (s : State) : Host.Outcome State Fault Refusal :=
  .next (s.setSquare .one (writeSquareLow low s.sq1))

/-- WR_SQ1_THI (R104). -/
def execWrSq1Thi (index : BitVec 5) (high : BitVec 3) (s : State) : Host.Outcome State Fault Refusal :=
  .next (s.setSquare .one (writeSquareHigh s.config index high s.sq1))

/-- WR_SQ2_CTRL (R105). -/
def execWrSq2Ctrl (duty : BitVec 2) (lengthHalt constantVolume : Bool) (volume : BitVec 4) (s : State) :
    Host.Outcome State Fault Refusal :=
  .next (s.setSquare .two (writeSquareCtrl duty lengthHalt constantVolume volume s.sq2))

/-- WR_SQ2_SWEEP (R106). -/
def execWrSq2Sweep (enabled : Bool) (period : BitVec 3) (negate : Bool) (shift : BitVec 3) (s : State) :
    Host.Outcome State Fault Refusal :=
  .next (s.setSquare .two (writeSquareSweep enabled period negate shift s.sq2))

/-- WR_SQ2_TLO (R107). -/
def execWrSq2Tlo (low : Byte) (s : State) : Host.Outcome State Fault Refusal :=
  .next (s.setSquare .two (writeSquareLow low s.sq2))

/-- WR_SQ2_THI (R108). -/
def execWrSq2Thi (index : BitVec 5) (high : BitVec 3) (s : State) : Host.Outcome State Fault Refusal :=
  .next (s.setSquare .two (writeSquareHigh s.config index high s.sq2))

end Sys2Proof.Machine
end

