-- ==== Sys2Proof/Machine/TriangleWrites.lean ====
section
/-!
DEFINITION. The register writes of the triangle channel, $4008, $400A and $400B
(spec/40_register_write.md, section 3).
-/

namespace Sys2Proof.Machine

/-- WR_TRI_CTRL: the linear counter itself is not loaded by this write (R109). -/
def execWrTriCtrl (control : Bool) (reload : BitVec 7) (s : State) : Host.Outcome State Fault Refusal :=
  .next (s.setTri { s.tri with controlFlag := control, linearReloadValue := reload })

/-- WR_TRI_TLO (R111). -/
def execWrTriTlo (low : Byte) (s : State) : Host.Outcome State Fault Refusal :=
  .next (s.setTri { s.tri with timerPeriod := periodWithLow s.tri.timerPeriod low })

/-- WR_TRI_THI: the period's high bits, the length load, the phase reset and the linear counter's
reload flag (R102, R112). -/
def execWrTriThi (index : BitVec 5) (high : BitVec 3) (s : State) : Host.Outcome State Fault Refusal :=
  .next (s.setTri
    { s.tri with
      timerPeriod := periodWithHigh s.tri.timerPeriod high
      lengthCounter := lengthLoad s.config s.tri.enabled index s.tri.lengthCounter
      sequencePosition := 0#5
      linearReload := true })

end Sys2Proof.Machine
end

