-- ==== Sys2Proof/Machine/Dispatch.lean ====
section
/-! DEFINITION. The dispatch from an operation to its meaning, one arm per row of spec/opcode_table.json. -/

namespace Sys2Proof.Machine
open Sys2Proof

def exec (i : Instr) (s : State) : Host.Outcome State Fault Refusal :=
  match i with
  | .wrSq1Ctrl duty halt constant volume => Sys2Proof.Machine.execWrSq1Ctrl duty halt constant volume s
  | .wrSq1Sweep enabled period negate shift => Sys2Proof.Machine.execWrSq1Sweep enabled period negate shift s
  | .wrSq1Tlo low => Sys2Proof.Machine.execWrSq1Tlo low s
  | .wrSq1Thi index high => Sys2Proof.Machine.execWrSq1Thi index high s
  | .wrSq2Ctrl duty halt constant volume => Sys2Proof.Machine.execWrSq2Ctrl duty halt constant volume s
  | .wrSq2Sweep enabled period negate shift => Sys2Proof.Machine.execWrSq2Sweep enabled period negate shift s
  | .wrSq2Tlo low => Sys2Proof.Machine.execWrSq2Tlo low s
  | .wrSq2Thi index high => Sys2Proof.Machine.execWrSq2Thi index high s
  | .wrTriCtrl control reload => Sys2Proof.Machine.execWrTriCtrl control reload s
  | .wrTriTlo low => Sys2Proof.Machine.execWrTriTlo low s
  | .wrTriThi index high => Sys2Proof.Machine.execWrTriThi index high s
  | .wrStatus square1 square2 triangle noise dmc => Sys2Proof.Machine.execWrStatus square1 square2 triangle noise dmc s
  | .wrFrame mode irqInhibit => Sys2Proof.Machine.execWrFrame mode irqInhibit s
  | .wrIgnored addr data => Sys2Proof.Machine.execWrIgnored addr data s
  | .rdStatus => Sys2Proof.Machine.execRdStatus s
  | .rdZero addr => Sys2Proof.Machine.execRdZero addr s
  | .tick => Sys2Proof.Machine.execTick s
  | .sample => Sys2Proof.Machine.execSample s

end Sys2Proof.Machine
end

