-- ==== Sys2Proof/WellFormed.lean ====
section
/-!
DEFINITION. Well-formed operations. Every field of an operation has its own width by its type, so
the one thing to check is the address of the two catch-all rows: a WR_IGNORED names an address no
full-mask WRITE row decodes, and a RD_ZERO one that RD_STATUS does not decode (rules R82, R83, R110, R141).
-/

namespace Sys2Proof

/-- The addresses the register decoder assigns to a WRITE (R83). -/
def decodedWriteAddrs : List Addr :=
  [0x4000, 0x4001, 0x4002, 0x4003, 0x4004, 0x4005, 0x4006, 0x4007, 0x4008, 0x400A, 0x400B, 0x4015, 0x4017]

/-- The operation is one a decoder can answer with (R82, R83). -/
def Instr.wellFormed : Instr → Bool
  | .wrIgnored a _ => !decodedWriteAddrs.contains a
  | .rdZero a => a != 0x4015
  | .wrSq1Ctrl .. | .wrSq1Sweep .. | .wrSq1Tlo .. | .wrSq1Thi ..
  | .wrSq2Ctrl .. | .wrSq2Sweep .. | .wrSq2Tlo .. | .wrSq2Thi ..
  | .wrTriCtrl .. | .wrTriTlo .. | .wrTriThi .. | .wrStatus .. | .wrFrame ..
  | .rdStatus | .tick | .sample => true

end Sys2Proof
end

