-- ==== Sys2Proof/Decode.lean ====
section
/-!
DEFINITION. The decoder from 26-bit operation words to operations and the encoder back, both written
from the operation word R80, the address map R83 and the register formats R84 to R91; after them the
opcode table itself as match and mask rows with the selection rule R82, and the spec's program
notation (R96, R97).
-/

namespace Sys2Proof

/-! ## Fields of the operation word -/

/-- `op[25:24]`, the kind: 0 READ, 1 WRITE, 2 TICK, 3 SAMPLE (R80). -/
def kindField (op : OpWord) : BitVec 2 := op.extractLsb' 24 2

/-- `op[23:8]`, the bus address `A` (R80). -/
def addrField (op : OpWord) : Addr := op.extractLsb' 8 16

/-- `op[7:0]`, the bus data `D` (R80). -/
def dataField (op : OpWord) : Byte := op.extractLsb' 0 8

/-- The frame-sequencer mode a bit selects: 0 is 4-step, 1 is 5-step (R91). -/
def modeOfBit (b : Bool) : FrameMode := if b then .fiveStep else .fourStep

/-- The bit that selects a frame-sequencer mode (R91). -/
def bitOfMode : FrameMode → Bool
  | .fourStep => false
  | .fiveStep => true

/-! ## Decoding -/

/-- The operation a WRITE of data `d` at address `a` is (R83, formats R84 to R91). -/
def decodeWrite (a : Addr) (d : Byte) : Instr :=
  if a = 0x4000 then .wrSq1Ctrl (d.extractLsb' 6 2) (d.getLsbD 5) (d.getLsbD 4) (d.extractLsb' 0 4)
  else if a = 0x4001 then .wrSq1Sweep (d.getLsbD 7) (d.extractLsb' 4 3) (d.getLsbD 3) (d.extractLsb' 0 3)
  else if a = 0x4002 then .wrSq1Tlo d
  else if a = 0x4003 then .wrSq1Thi (d.extractLsb' 3 5) (d.extractLsb' 0 3)
  else if a = 0x4004 then .wrSq2Ctrl (d.extractLsb' 6 2) (d.getLsbD 5) (d.getLsbD 4) (d.extractLsb' 0 4)
  else if a = 0x4005 then .wrSq2Sweep (d.getLsbD 7) (d.extractLsb' 4 3) (d.getLsbD 3) (d.extractLsb' 0 3)
  else if a = 0x4006 then .wrSq2Tlo d
  else if a = 0x4007 then .wrSq2Thi (d.extractLsb' 3 5) (d.extractLsb' 0 3)
  else if a = 0x4008 then .wrTriCtrl (d.getLsbD 7) (d.extractLsb' 0 7)
  else if a = 0x400A then .wrTriTlo d
  else if a = 0x400B then .wrTriThi (d.extractLsb' 3 5) (d.extractLsb' 0 3)
  else if a = 0x4015 then
    .wrStatus (d.getLsbD 0) (d.getLsbD 1) (d.getLsbD 2) (d.getLsbD 3) (d.getLsbD 4)
  else if a = 0x4017 then .wrFrame (modeOfBit (d.getLsbD 7)) (d.getLsbD 6)
  else .wrIgnored a d

/-- The operation a READ at address `a` is (R83). -/
def decodeRead (a : Addr) : Instr := if a = 0x4015 then .rdStatus else .rdZero a

/-- The decoder. Every one of the 2^26 words is one operation, and the fields an operation does not
use are ignored (R80, R81). -/
def decode (op : OpWord) : Instr :=
  if kindField op = 0 then decodeRead (addrField op)
  else if kindField op = 1 then decodeWrite (addrField op) (dataField op)
  else if kindField op = 2 then .tick
  else .sample

/-- Why a number is no operation. -/
inductive DecodeError where
  /-- The number has a bit above bit 25; an operation word has 26 bits (R80). -/
  | widerThanOperationWord
deriving DecidableEq, Repr

/-- The decoder on any number: a number of more than 26 bits is rejected by name. -/
def decodeNat (w : Nat) : Except DecodeError Instr :=
  if w < 2 ^ 26 then .ok (decode (BitVec.ofNat 26 w)) else .error .widerThanOperationWord

/-- The operation the decoder reads from the low `nbits` bits of `w`, numbered as
spec/opcode_table.json numbers them. -/
def decodeTableWord (nbits w : Nat) : Option Instr :=
  match decodeNat (w % 2 ^ nbits) with
  | .ok i => some i
  | .error _ => none

/-! ## Program notation and encoding -/

/-- `W a, #d`: the WRITE word `0x1000000 | a << 8 | d` (R80, R96). -/
def writeOp (a : Addr) (d : Byte) : OpWord := 0x1000000#26 ||| a.setWidth 26 <<< 8 ||| d.setWidth 26

/-- `R a`: the READ word `a << 8`, its ignored data field zero (R80, R96). -/
def readOp (a : Addr) : OpWord := a.setWidth 26 <<< 8

/-- `T`: the TICK word (R96). -/
def tickOp : OpWord := 0x2000000

/-- `S`: the SAMPLE word (R96). -/
def sampleOp : OpWord := 0x3000000

/-- `T n`: n TICK words one after another (R97). -/
def tickOps (n : Nat) : List OpWord := List.replicate n tickOp

/-- A byte whose bit `k` is `b` and whose other bits are 0. -/
def bitAt (b : Bool) (k : Nat) : Byte := (BitVec.ofBool b).setWidth 8 <<< k

/-- A SQCTRL data byte `DDLCVVVV` (R84). -/
def packSqCtrl (duty : BitVec 2) (halt constant : Bool) (volume : BitVec 4) : Byte :=
  duty.setWidth 8 <<< 6 ||| bitAt halt 5 ||| bitAt constant 4 ||| volume.setWidth 8

/-- A SQSWEEP data byte `EPPPNSSS` (R85). -/
def packSqSweep (enabled : Bool) (period : BitVec 3) (negate : Bool) (shift : BitVec 3) : Byte :=
  bitAt enabled 7 ||| period.setWidth 8 <<< 4 ||| bitAt negate 3 ||| shift.setWidth 8

/-- A THI data byte `IIIIIHHH` (R87). -/
def packThi (index : BitVec 5) (high : BitVec 3) : Byte := index.setWidth 8 <<< 3 ||| high.setWidth 8

/-- A TRICTRL data byte `KRRRRRRR` (R88). -/
def packTriCtrl (control : Bool) (reload : BitVec 7) : Byte := bitAt control 7 ||| reload.setWidth 8

/-- A STATUSW data byte `xxxMNTBA`, its ignored bits zero (R89). -/
def packStatus (square1 square2 triangle noise dmc : Bool) : Byte :=
  bitAt dmc 4 ||| bitAt noise 3 ||| bitAt triangle 2 ||| bitAt square2 1 ||| bitAt square1 0

/-- A FRAME data byte `MIxxxxxx`, its ignored bits zero (R91). -/
def packFrame (mode : FrameMode) (irqInhibit : Bool) : Byte :=
  bitAt (bitOfMode mode) 7 ||| bitAt irqInhibit 6

/-- The operation word of an operation, every ignored bit zero (R80 to R91). -/
def encode : Instr → OpWord
  | .wrSq1Ctrl duty halt constant volume => writeOp 0x4000 (packSqCtrl duty halt constant volume)
  | .wrSq1Sweep enabled period negate shift => writeOp 0x4001 (packSqSweep enabled period negate shift)
  | .wrSq1Tlo low => writeOp 0x4002 low
  | .wrSq1Thi index high => writeOp 0x4003 (packThi index high)
  | .wrSq2Ctrl duty halt constant volume => writeOp 0x4004 (packSqCtrl duty halt constant volume)
  | .wrSq2Sweep enabled period negate shift => writeOp 0x4005 (packSqSweep enabled period negate shift)
  | .wrSq2Tlo low => writeOp 0x4006 low
  | .wrSq2Thi index high => writeOp 0x4007 (packThi index high)
  | .wrTriCtrl control reload => writeOp 0x4008 (packTriCtrl control reload)
  | .wrTriTlo low => writeOp 0x400A low
  | .wrTriThi index high => writeOp 0x400B (packThi index high)
  | .wrStatus square1 square2 triangle noise dmc =>
    writeOp 0x4015 (packStatus square1 square2 triangle noise dmc)
  | .wrFrame mode irqInhibit => writeOp 0x4017 (packFrame mode irqInhibit)
  | .wrIgnored a d => writeOp a d
  | .rdStatus => readOp 0x4015
  | .rdZero a => readOp a
  | .tick => tickOp
  | .sample => sampleOp

/-! ## The opcode table and its selection rule -/

/-- One row of spec/opcode_table.json: the row's priority is `fullMask` where it names one address,
and otherwise that of a catch-all row or of the only row of its kind (R82). -/
structure OpRow where
  mnemonic : String
  pattern : OpWord
  mask : OpWord
  fullMask : Bool
deriving DecidableEq, Repr

/-- `(op & mask) = match` (R82). -/
def OpRow.hits (r : OpRow) (op : OpWord) : Bool := op &&& r.mask == r.pattern

/-- A full-mask row, with mask 0x3FFFF00. -/
def fullRow (mnemonic : String) (pattern : OpWord) : OpRow := ⟨mnemonic, pattern, 0x3FFFF00, true⟩

/-- A row that fixes the kind alone, with mask 0x3000000. -/
def kindRow (mnemonic : String) (pattern : OpWord) : OpRow := ⟨mnemonic, pattern, 0x3000000, false⟩

/-- The rows of spec/opcode_table.json, in its order. -/
def opcodeTable : List OpRow :=
  [ fullRow "WR_SQ1_CTRL" 0x1400000, fullRow "WR_SQ1_SWEEP" 0x1400100,
    fullRow "WR_SQ1_TLO" 0x1400200, fullRow "WR_SQ1_THI" 0x1400300,
    fullRow "WR_SQ2_CTRL" 0x1400400, fullRow "WR_SQ2_SWEEP" 0x1400500,
    fullRow "WR_SQ2_TLO" 0x1400600, fullRow "WR_SQ2_THI" 0x1400700,
    fullRow "WR_TRI_CTRL" 0x1400800, fullRow "WR_TRI_TLO" 0x1400A00,
    fullRow "WR_TRI_THI" 0x1400B00, fullRow "WR_STATUS" 0x1401500,
    fullRow "WR_FRAME" 0x1401700, kindRow "WR_IGNORED" 0x1000000,
    fullRow "RD_STATUS" 0x0401500, kindRow "RD_ZERO" 0x0000000,
    kindRow "TICK" 0x2000000, kindRow "SAMPLE" 0x3000000 ]

/-- The rows a word selects: the full-mask rows that match it, and where there is none the other rows
that match it (R82). -/
def selectedRows (op : OpWord) : List OpRow :=
  match opcodeTable.filter (fun r => r.fullMask && r.hits op) with
  | [] => opcodeTable.filter (fun r => !r.fullMask && r.hits op)
  | rows => rows

end Sys2Proof
end

