-- ==== Sys2Proof/Machine/Fetch.lean ====
section
/-!
DEFINITION. How the core comes to its next operation. It has no program counter and fetches nothing
(rule R21): the host issues operation words, and the core applies them one at a time in the order issued (R10,
R70). The words issued and not yet applied stand in `State.pending` (log entry 1).
-/

namespace Sys2Proof.Machine

/-- The host issues one more operation (R275). -/
def State.issue (s : State) (op : OpWord) : State := { s with pending := s.pending ++ [op] }

/-- The next operation the host has issued, and the state without it; none where the host has issued
nothing more (R70, R272). -/
def nextOperation (s : State) : Option (Instr × State) :=
  match s.pending with
  | [] => none
  | op :: rest => some (decode op, { s with pending := rest })

/-- The operation word `w` put where the next step takes its operation from; an operation word has 26
bits (R80). -/
def placeOperation (s : State) (nbits w : Nat) : State :=
  { s with pending := BitVec.ofNat 26 (w % 2 ^ nbits) :: s.pending }

end Sys2Proof.Machine
end

