-- ==== Sys2Proof/Machine/Step.lean ====
section
/-!
DEFINITION. One step: the next operation the host has issued is taken off and applied (rules R10, R70).
Where the host has issued nothing, the core does nothing and all state is kept (R272).
-/

namespace Sys2Proof.Machine

/-- One step of the machine. -/
def step (s : State) : Host.Outcome State Fault Refusal :=
  match nextOperation s with
  | none => .next s
  | some (i, t) => exec i t

/-- `s` with the operation word `w` where the next step takes its operation from. -/
def State.withFetchWord (s : State) (nbits w : Nat) : State := placeOperation s nbits w

end Sys2Proof.Machine
end

