-- ==== Sys2Proof/Safety.lean ====
section
/-!
DEFINITION. What counts as a safe run, in the terms the statements use: the invariants rule R59 lists, the
stronger invariant a step keeps, the states a run can reach, and the comparisons of two states that the
isolation statements speak of.
-/

namespace Sys2Proof.Machine

/-- The largest entry of `LENGTH_TABLE` (R59(a)). -/
def maxLength (c : Config) : Nat := c.lengthTable.entries.foldr (fun b m => max b.toNat m) 0

/-- The last step offset of a mode (R59(e)); 0 where the table is empty, which no configuration has. -/
def lastOffset (c : Config) (m : FrameMode) : Nat := (stepOffsets c m).getLast?.getD 0

/-- The step offsets, the actions and the number of steps of the mode a state is in, named mode by mode: the
4-step mode takes the tables of 4 entries and the 5-step mode those of 5 (R13, R221). -/
def ModeTables (s : State) (offsets : List Nat) (actions : List FrameAction) (steps : Nat) : Prop :=
  (s.fs.mode = .fourStep ∧ offsets = s.config.frameStepCycles4.entries ∧
    actions = s.config.frameActions4.entries ∧ steps = 4) ∨
  (s.fs.mode = .fiveStep ∧ offsets = s.config.frameStepCycles5.entries ∧
    actions = s.config.frameActions5.entries ∧ steps = 5)

/-- The invariants of rule R59, clause by clause; R59(c) says no more than the widths of the two fields. -/
structure SpecInvariants (s : State) : Prop where
  /-- R59(a). -/
  lengthBound : s.sq1.lengthCounter.toNat ≤ maxLength s.config ∧
    s.sq2.lengthCounter.toNat ≤ maxLength s.config ∧ s.tri.lengthCounter.toNat ≤ maxLength s.config
  /-- R59(b). -/
  disabledIsZero : (s.sq1.enabled = false → s.sq1.lengthCounter = 0) ∧
    (s.sq2.enabled = false → s.sq2.lengthCounter = 0) ∧ (s.tri.enabled = false → s.tri.lengthCounter = 0)
  /-- R59(c). -/
  positionBound : s.sq1.sequencePosition.toNat < 8 ∧ s.sq2.sequencePosition.toNat < 8 ∧
    s.tri.sequencePosition.toNat < 32
  /-- R59(d). -/
  stepIndexBound : s.fs.stepIndex.val < stepCount s.fs.mode
  /-- R59(e). -/
  cycleBound : s.fs.cycleCounter < lastOffset s.config s.fs.mode

/-- The invariant of one step: it adds to R59 what makes it hold from step to step. The configuration
is well formed, the cycle counter lies below the offset of the NEXT step (which is R52, R53 and R226 together),
and the sample counter lies below the sample period (R247). -/
structure Inv (s : State) : Prop where
  configWf : s.config.WellFormed
  lengthBound : s.sq1.lengthCounter.toNat ≤ maxLength s.config ∧
    s.sq2.lengthCounter.toNat ≤ maxLength s.config ∧ s.tri.lengthCounter.toNat ≤ maxLength s.config
  disabledIsZero : (s.sq1.enabled = false → s.sq1.lengthCounter = 0) ∧
    (s.sq2.enabled = false → s.sq2.lengthCounter = 0) ∧ (s.tri.enabled = false → s.tri.lengthCounter = 0)
  nextStepAhead : ∃ offset, (stepOffsets s.config s.fs.mode)[s.fs.stepIndex.val]? = some offset ∧
    s.fs.cycleCounter < offset
  sampleBound : ∀ p, s.config.samplePeriod = some p → s.apu.sampleCounter < p

/-- The states an instance of configuration `c` can reach: from power-on the host may issue any
operation at any time and the core may take a step at any time (R10, R275). -/
inductive Reachable (c : Config) : State → Prop where
  | powerOn : Reachable c (State.powerOn c)
  | issue {s : State} (op : OpWord) : Reachable c s → Reachable c (s.issue op)
  | step {s t : State} : Reachable c s → step s = .next t → Reachable c t

/-- The operation is a WRITE of the register bus (R80). -/
def isWrite : Instr → Bool
  | .wrSq1Ctrl .. | .wrSq1Sweep .. | .wrSq1Tlo .. | .wrSq1Thi ..
  | .wrSq2Ctrl .. | .wrSq2Sweep .. | .wrSq2Tlo .. | .wrSq2Thi ..
  | .wrTriCtrl .. | .wrTriTlo .. | .wrTriThi .. | .wrStatus .. | .wrFrame .. | .wrIgnored .. => true
  | .rdStatus | .rdZero .. | .tick | .sample => false

/-- The bits of its operation word that an operation uses; the others are ignored (R81, R89, R91). -/
def usedBits : Instr → OpWord
  | .wrSq1Ctrl .. | .wrSq1Sweep .. | .wrSq1Tlo .. | .wrSq1Thi ..
  | .wrSq2Ctrl .. | .wrSq2Sweep .. | .wrSq2Tlo .. | .wrSq2Thi ..
  | .wrTriCtrl .. | .wrTriTlo .. | .wrTriThi .. | .wrIgnored .. => 0x3FFFFFF
  | .wrStatus .. => 0x3FFFF1F
  | .wrFrame .. => 0x3FFFFC0
  | .rdStatus | .rdZero .. => 0x3FFFF00
  | .tick | .sample => 0x3000000

/-- The state with the three fields no rule reads set to given values (R54, R56). -/
def withStubs (s : State) (noise dmc inhibit : Bool) : State :=
  { s with
    apu := { s.apu with noiseEnabled := noise, dmcEnabled := dmc }
    fs := { s.fs with frameIrqInhibit := inhibit } }

/-- Two states agree on everything but Square1 and the values already handed back. -/
def AgreeOutsideSquare1 (s t : State) : Prop :=
  s.sq2 = t.sq2 ∧ s.tri = t.tri ∧ s.fs = t.fs ∧ s.apu = t.apu ∧ s.config = t.config ∧ s.pending = t.pending

/-- Two states agree on everything but Square2 and the values already handed back. -/
def AgreeOutsideSquare2 (s t : State) : Prop :=
  s.sq1 = t.sq1 ∧ s.tri = t.tri ∧ s.fs = t.fs ∧ s.apu = t.apu ∧ s.config = t.config ∧ s.pending = t.pending

/-- Two states agree on everything but the triangle and the values already handed back. -/
def AgreeOutsideTriangle (s t : State) : Prop :=
  s.sq1 = t.sq1 ∧ s.sq2 = t.sq2 ∧ s.fs = t.fs ∧ s.apu = t.apu ∧ s.config = t.config ∧ s.pending = t.pending

end Sys2Proof.Machine
end

