-- ==== Sys2Proof/Certificates/Slice0/Obligations.lean ====
section
/-!
DEFINITION. The statements for the provers. Each docstring names the rules of spec/ the statement comes
from; where a clause rests on a decision of the spec (92_eei_decisions.md D<n>) or on a choice of the model, the docstring
says so and names the entry of the assumption log.
-/

open Sys2Proof Sys2Proof.Machine

/-! ## Power-on -/

/-- R23, R280: power-on sets every integer field to 0 and every Boolean field to false, with the
frame sequencer in 4-step mode, for every configuration; the machine's reset is one such power-on. -/
def Obligations.PowerOnIsAllZero : Prop :=
  (∃ c, State.reset = State.powerOn c) ∧
  ∀ c : Config,
    (∀ q, (q = (State.powerOn c).sq1 ∨ q = (State.powerOn c).sq2) →
      q.enabled = false ∧ q.lengthCounter.toNat = 0 ∧ q.lengthHalt = false ∧ q.constantVolume = false ∧
      q.volume.toNat = 0 ∧ q.duty.toNat = 0 ∧ q.timerPeriod.toNat = 0 ∧ q.timerCounter.toNat = 0 ∧
      q.sequencePosition.toNat = 0 ∧ q.envelopeStart = false ∧ q.envelopeDivider.toNat = 0 ∧
      q.envelopeDecay.toNat = 0 ∧ q.sweepEnabled = false ∧ q.sweepPeriod.toNat = 0 ∧
      q.sweepNegate = false ∧ q.sweepShift.toNat = 0 ∧ q.sweepReload = false ∧ q.sweepDivider.toNat = 0) ∧
    (∀ t, t = (State.powerOn c).tri →
      t.enabled = false ∧ t.lengthCounter.toNat = 0 ∧ t.controlFlag = false ∧
      t.linearReloadValue.toNat = 0 ∧ t.linearCounter.toNat = 0 ∧ t.linearReload = false ∧
      t.timerPeriod.toNat = 0 ∧ t.timerCounter.toNat = 0 ∧ t.sequencePosition.toNat = 0) ∧
    (State.powerOn c).fs.mode = .fourStep ∧ (State.powerOn c).fs.stepIndex.val = 0 ∧
    (State.powerOn c).fs.cycleCounter = 0 ∧ (State.powerOn c).fs.frameIrqInhibit = false ∧
    (State.powerOn c).apu.apuParity.toNat = 0 ∧ (State.powerOn c).apu.noiseEnabled = false ∧
    (State.powerOn c).apu.dmcEnabled = false ∧ (State.powerOn c).apu.sampleCounter = 0

/-- R281 (derived in the spec): at power-on $4015 reads 0 and every channel output is 0, for every
configuration; with the default tables the mix is 0. That nothing is issued and nothing handed back yet is the
model's choice (log entries 1 and 2). -/
def Obligations.PowerOnIsSilent : Prop :=
  (∀ c : Config, busRead (State.powerOn c) 0x4015 = 0 ∧
    (∀ n, squareOutput (State.powerOn c) n = 0) ∧ triangleOutput (State.powerOn c) = 0 ∧
    (State.powerOn c).pending = [] ∧ (State.powerOn c).outputs = []) ∧
  mix State.reset = 0

/-! ## The step and the decoder -/

/-- R10, R70 with the model's queue of issued operations (log entry 1): where the next issued word is
`op`, a step is exactly the meaning of `decode op` on the state without that word; and `withFetchWord` puts a word exactly there. -/
def Obligations.StepRunsTheIssuedOperation : Prop :=
  (∀ (s : State) (op : OpWord) (rest : List OpWord), s.pending = op :: rest →
    step s = exec (decode op) { s with pending := rest }) ∧
  (∀ (s : State) (w : Nat), w < 2 ^ 26 →
    ∃ i, decodeTableWord 32 w = some i ∧ i = decode (BitVec.ofNat 26 w) ∧
      step (s.withFetchWord 32 w) = exec i s)

/-- R272 ("Between host operations it does nothing and all state is kept") with the model's queue (log
entry 1): where the host has issued nothing more, a step changes nothing. -/
def Obligations.StepIdlesWhenNothingIsIssued : Prop :=
  ∀ s : State, s.pending = [] → step s = .next s

/-- R260, and R272 for a step where nothing is issued, which is the model's choice (the queue of issued operations,
log entry 1): every operation, for any operand and in any state, gives a next state, none faults and none is refused; and so does
every step. -/
def Obligations.EveryOperationCompletes : Prop :=
  (∀ (i : Instr) (s : State), ∃ t, exec i s = .next t) ∧ ∀ s : State, ∃ t, step s = .next t

/-- R9, R97 (decision D2) over the model's queue (log entry 1): `T n` is n cycles, one at a time, from any
state. -/
def Obligations.IssuedTicksRunOneAtATime : Prop :=
  ∀ (n : Nat) (s : State),
    Host.Core.run Sys2Proof.core n { s with pending := tickOps n ++ s.pending } = .next (tickCycle^[n] s)

/-- The words of 95_test_vectors.md section 2 and of rule R96 decode as the spec says (R80, decision D1). -/
def Obligations.SpecWordsDecode : Prop :=
  decode 0x1400000 = .wrSq1Ctrl 0 false false 0 ∧ decode 0x14000B7 = .wrSq1Ctrl 2 true true 7 ∧
  decode 0x14001A9 = .wrSq1Sweep true 2 true 1 ∧ decode 0x1400BFF = .wrTriThi 31 7 ∧
  decode 0x14015E0 = .wrStatus false false false false false ∧ decode 0x14017C0 = .wrFrame .fiveStep true ∧
  decode 0x1400900 = .wrIgnored 0x4009 0 ∧ decode 0x04015FF = .rdStatus ∧
  decode 0x0400000 = .rdZero 0x4000 ∧ decode 0x2FFFFFF = .tick ∧ decode 0x3123456 = .sample

/-- R84, R86, R87, R88, R91: the formats SQCTRL, TLO, THI, TRICTRL and FRAME, bit by bit, at every address
that has them. -/
def Obligations.WriteFormatsDecode : Prop :=
  ∀ d : Byte,
    (∃ (duty : BitVec 2) (halt constant : Bool) (volume : BitVec 4),
      decode (writeOp 0x4000 d) = .wrSq1Ctrl duty halt constant volume ∧
      decode (writeOp 0x4004 d) = .wrSq2Ctrl duty halt constant volume ∧
      duty.toNat = d.toNat / 64 ∧ halt = decide (d.toNat / 32 % 2 = 1) ∧
      constant = decide (d.toNat / 16 % 2 = 1) ∧ volume.toNat = d.toNat % 16) ∧
    (decode (writeOp 0x4002 d) = .wrSq1Tlo d ∧ decode (writeOp 0x4006 d) = .wrSq2Tlo d ∧
      decode (writeOp 0x400A d) = .wrTriTlo d) ∧
    (∃ (index : BitVec 5) (high : BitVec 3),
      decode (writeOp 0x4003 d) = .wrSq1Thi index high ∧ decode (writeOp 0x4007 d) = .wrSq2Thi index high ∧
      decode (writeOp 0x400B d) = .wrTriThi index high ∧
      index.toNat = d.toNat / 8 ∧ high.toNat = d.toNat % 8) ∧
    (∃ (control : Bool) (reload : BitVec 7), decode (writeOp 0x4008 d) = .wrTriCtrl control reload ∧
      control = decide (d.toNat / 128 = 1) ∧ reload.toNat = d.toNat % 128) ∧
    (∃ (mode : FrameMode) (inhibit : Bool), decode (writeOp 0x4017 d) = .wrFrame mode inhibit ∧
      (mode = .fiveStep ↔ d.toNat / 128 = 1) ∧ inhibit = decide (d.toNat / 64 % 2 = 1))

/-- The formats SQSWEEP (R85; its address and bits are decision D13) and STATUSW (R89, bits 1 to 3 placed by
the spec's inference), bit by bit. -/
def Obligations.SweepAndStatusFormatsDecode : Prop :=
  ∀ d : Byte,
    (∃ (enabled : Bool) (period : BitVec 3) (negate : Bool) (shift : BitVec 3),
      decode (writeOp 0x4001 d) = .wrSq1Sweep enabled period negate shift ∧
      decode (writeOp 0x4005 d) = .wrSq2Sweep enabled period negate shift ∧
      enabled = decide (d.toNat / 128 = 1) ∧ period.toNat = d.toNat / 16 % 8 ∧
      negate = decide (d.toNat / 8 % 2 = 1) ∧ shift.toNat = d.toNat % 8) ∧
    decode (writeOp 0x4015 d) =
      .wrStatus (decide (d.toNat % 2 = 1)) (decide (d.toNat / 2 % 2 = 1)) (decide (d.toNat / 4 % 2 = 1))
        (decide (d.toNat / 8 % 2 = 1)) (decide (d.toNat / 16 % 2 = 1))

/-- Decode and encode agree on every well-formed operation, every operand at every value (R80 to R91,
over the operation word of decision D1). -/
def Obligations.DecodeOfEncodeIsTheOperation : Prop :=
  ∀ i : Instr, i.wellFormed = true → decode (encode i) = i

/-- R81 (decision D28): every word is a well-formed operation, and its encoding is the word with exactly
its ignored bits cleared. -/
def Obligations.EncodeOfDecodeClearsIgnoredBits : Prop :=
  ∀ op : OpWord, (decode op).wellFormed = true ∧ encode (decode op) = op &&& usedBits (decode op)

/-- R82 (derived in the spec): with the full-mask rows first, exactly one row of the opcode table matches each
word, and it is the row of the operation the decoder gives. -/
def Obligations.EveryWordSelectsItsTableRow : Prop :=
  ∀ op : OpWord, ∃ r, selectedRows op = [r] ∧ r ∈ opcodeTable ∧ r.mnemonic = (decode op).mnemonic

/-! ## Register writes -/

/-- R100, R105: the control write of a square channel completes in every state, writes the four fields and
nothing else. -/
def Obligations.SquareControlWrites : Prop :=
  ∀ (s : State) (duty : BitVec 2) (halt constant : Bool) (volume : BitVec 4),
    exec (.wrSq1Ctrl duty halt constant volume) s =
      .next { s with sq1 :=
        { s.sq1 with duty := duty, lengthHalt := halt, constantVolume := constant, volume := volume } } ∧
    exec (.wrSq2Ctrl duty halt constant volume) s =
      .next { s with sq2 :=
        { s.sq2 with duty := duty, lengthHalt := halt, constantVolume := constant, volume := volume } }

/-- R101, R106 (the register is decision D13, the reload flag decision D14; log entry 8): the sweep write of a
square channel completes in every state, writes the five fields and nothing else. -/
def Obligations.SquareSweepWrites : Prop :=
  ∀ (s : State) (enabled : Bool) (period : BitVec 3) (negate : Bool) (shift : BitVec 3),
    exec (.wrSq1Sweep enabled period negate shift) s =
      .next { s with sq1 :=
        { s.sq1 with
          sweepEnabled := enabled
          sweepPeriod := period
          sweepNegate := negate
          sweepShift := shift
          sweepReload := true } } ∧
    exec (.wrSq2Sweep enabled period negate shift) s =
      .next { s with sq2 :=
        { s.sq2 with
          sweepEnabled := enabled
          sweepPeriod := period
          sweepNegate := negate
          sweepShift := shift
          sweepReload := true } }

/-- R103, R107, R111: the timer-low write of each channel completes in every state and changes period bits
7..0 alone. -/
def Obligations.TimerLowWrites : Prop :=
  ∀ (s : State) (low : Byte),
    (∃ p : Period, p.toNat = s.sq1.timerPeriod.toNat / 256 * 256 + low.toNat ∧
      exec (.wrSq1Tlo low) s = .next { s with sq1 := { s.sq1 with timerPeriod := p } }) ∧
    (∃ p : Period, p.toNat = s.sq2.timerPeriod.toNat / 256 * 256 + low.toNat ∧
      exec (.wrSq2Tlo low) s = .next { s with sq2 := { s.sq2 with timerPeriod := p } }) ∧
    (∃ p : Period, p.toNat = s.tri.timerPeriod.toNat / 256 * 256 + low.toNat ∧
      exec (.wrTriTlo low) s = .next { s with tri := { s.tri with timerPeriod := p } })

/-- R104, R108, R112, with R102 (the envelope start flag is decision D17, the linear reload flag decision D19;
log entries 9 and 10): the timer-high write of each channel completes in every state, changes period bits 10..8, loads the
length counter where the channel is enabled, restarts the phase, sets the flag, and changes nothing else. -/
def Obligations.TimerHighWrites : Prop :=
  ∀ (s : State) (index : BitVec 5) (high : BitVec 3),
    (∃ p : Period, p.toNat = high.toNat * 256 + s.sq1.timerPeriod.toNat % 256 ∧
      exec (.wrSq1Thi index high) s =
        .next { s with sq1 :=
          { s.sq1 with
            timerPeriod := p
            lengthCounter :=
              if s.sq1.enabled then s.config.lengthTable.get index.toNat index.isLt else s.sq1.lengthCounter
            sequencePosition := 0
            envelopeStart := true } }) ∧
    (∃ p : Period, p.toNat = high.toNat * 256 + s.sq2.timerPeriod.toNat % 256 ∧
      exec (.wrSq2Thi index high) s =
        .next { s with sq2 :=
          { s.sq2 with
            timerPeriod := p
            lengthCounter :=
              if s.sq2.enabled then s.config.lengthTable.get index.toNat index.isLt else s.sq2.lengthCounter
            sequencePosition := 0
            envelopeStart := true } }) ∧
    (∃ p : Period, p.toNat = high.toNat * 256 + s.tri.timerPeriod.toNat % 256 ∧
      exec (.wrTriThi index high) s =
        .next { s with tri :=
          { s.tri with
            timerPeriod := p
            lengthCounter :=
              if s.tri.enabled then s.config.lengthTable.get index.toNat index.isLt else s.tri.lengthCounter
            sequencePosition := 0
            linearReload := true } })

/-- R102: a high-byte write loads the length counter from entry `I` of the length table exactly where the
channel is enabled, and leaves it unchanged where it is not. -/
def Obligations.HighByteWriteLoadsLengthOnlyIfEnabled : Prop :=
  ∀ (s : State) (index : BitVec 5) (high : BitVec 3), ∃ t1 t2 t3,
    exec (.wrSq1Thi index high) s = .next t1 ∧ exec (.wrSq2Thi index high) s = .next t2 ∧
    exec (.wrTriThi index high) s = .next t3 ∧
    some t1.sq1.lengthCounter =
      (if s.sq1.enabled then s.config.lengthTable.entries[index.toNat]? else some s.sq1.lengthCounter) ∧
    some t2.sq2.lengthCounter =
      (if s.sq2.enabled then s.config.lengthTable.entries[index.toNat]? else some s.sq2.lengthCounter) ∧
    some t3.tri.lengthCounter =
      (if s.tri.enabled then s.config.lengthTable.entries[index.toNat]? else some s.tri.lengthCounter)

/-- R109: the triangle control write completes in every state, writes the two fields and nothing else; the
linear counter is not loaded. -/
def Obligations.TriangleControlWrite : Prop :=
  ∀ (s : State) (control : Bool) (reload : BitVec 7),
    exec (.wrTriCtrl control reload) s =
      .next { s with tri := { s.tri with controlFlag := control, linearReloadValue := reload } }

/-- R115 (the noise and DMC stub flags are decision D25; log entry 12): the $4015 write completes in every state,
writes the five enable flags, zeroes the length counter of each disabled channel, and changes nothing else. -/
def Obligations.StatusWrite : Prop :=
  ∀ (s : State) (square1 square2 triangle noise dmc : Bool),
    exec (.wrStatus square1 square2 triangle noise dmc) s =
      .next
        { s with
          sq1 := { s.sq1 with
            enabled := square1, lengthCounter := if square1 then s.sq1.lengthCounter else 0 }
          sq2 := { s.sq2 with
            enabled := square2, lengthCounter := if square2 then s.sq2.lengthCounter else 0 }
          tri := { s.tri with
            enabled := triangle, lengthCounter := if triangle then s.tri.lengthCounter else 0 }
          apu := { s.apu with noiseEnabled := noise, dmcEnabled := dmc } }

/-- R116 (that the step index restarts too is decision D7; log entry 7): the $4017 write completes in every
state; it sets the mode and the inhibit flag and restarts the sequence, a 4-step write changes nothing else, and a 5-step
write then sends the half-frame and the quarter-frame clock. -/
def Obligations.FrameWrite : Prop :=
  ∀ (s : State) (inhibit : Bool),
    exec (.wrFrame .fourStep inhibit) s =
      .next { s with fs :=
        { mode := .fourStep, stepIndex := 0, cycleCounter := 0, frameIrqInhibit := inhibit } } ∧
    exec (.wrFrame .fiveStep inhibit) s =
      .next (quarterFrame (halfFrame { s with fs :=
        { mode := .fiveStep, stepIndex := 0, cycleCounter := 0, frameIrqInhibit := inhibit } }))

/-- R225: the immediate clock of a 5-step write is the half-frame clock and then the quarter-frame clock, on the
units as they stand at the write, after the counter is reset. -/
def Obligations.FiveStepWriteClocksEveryUnitOnce : Prop :=
  ∀ (s : State) (inhibit : Bool), ∃ r,
    exec (.wrFrame .fiveStep inhibit) s = .next (quarterFrame (halfFrame r)) ∧
    r.fs.cycleCounter = 0 ∧ r.sq1 = s.sq1 ∧ r.sq2 = s.sq2 ∧ r.tri = s.tri

/-- R119: a WRITE advances no timer, no frame-sequencer counter (a $4017 write resets it) and no sample counter,
and hands no value back. -/
def Obligations.WritesTakeNoTime : Prop :=
  ∀ (i : Instr) (s t : State), isWrite i = true → exec i s = .next t →
    t.sq1.timerCounter = s.sq1.timerCounter ∧ t.sq2.timerCounter = s.sq2.timerCounter ∧
    t.tri.timerCounter = s.tri.timerCounter ∧ t.apu.apuParity = s.apu.apuParity ∧
    t.apu.sampleCounter = s.apu.sampleCounter ∧ t.outputs = s.outputs ∧
    (t.fs.cycleCounter = s.fs.cycleCounter ∧ t.fs.stepIndex = s.fs.stepIndex ∨
      i.mnemonic = "WR_FRAME" ∧ t.fs.cycleCounter = 0)

/-- R68 (derived in the spec): two identical writes leave the state of one, for every register but $4017 with
bit 7 set. -/
def Obligations.RepeatedWriteIsOneWrite : Prop :=
  ∀ (i : Instr) (s t : State), isWrite i = true → (∀ b, i ≠ .wrFrame .fiveStep b) →
    exec i s = .next t → exec i t = .next t

/-- R110, R141: a WRITE of an address no row decodes changes nothing, and a READ of any address but $4015
hands back 0 and changes nothing else; neither stops. -/
def Obligations.UnassignedAddressesAreIgnored : Prop :=
  (∀ (a : Addr) (d : Byte), a ∉ decodedWriteAddrs → decode (writeOp a d) = .wrIgnored a d) ∧
  (∀ a : Addr, a ≠ 0x4015 → decode (readOp a) = .rdZero a) ∧
  (∀ (s : State) (a : Addr) (d : Byte), exec (.wrIgnored a d) s = .next s ∧
    exec (.rdZero a) s = .next { s with outputs := s.outputs ++ [.readByte 0] })

/-- R287, R289 (R287 quotes the source, R102): a high-byte write to a disabled channel whose counter is 0 loads
nothing, and enabling the channel afterwards loads nothing either. -/
def Obligations.EnablingLoadsNoLength : Prop :=
  ∀ (s t u : State) (index : BitVec 5) (high : BitVec 3) (a b c n d : Bool),
    exec (.wrStatus a b c n d) t = .next u →
    (exec (.wrSq1Thi index high) s = .next t → s.sq1.enabled = false → s.sq1.lengthCounter = 0 →
      u.sq1.lengthCounter = 0) ∧
    (exec (.wrSq2Thi index high) s = .next t → s.sq2.enabled = false → s.sq2.lengthCounter = 0 →
      u.sq2.lengthCounter = 0) ∧
    (exec (.wrTriThi index high) s = .next t → s.tri.enabled = false → s.tri.lengthCounter = 0 →
      u.tri.lengthCounter = 0) ∧
    (exec (.wrStatus false false false false false) s = .next t →
      u.sq1.lengthCounter = 0 ∧ u.sq2.lengthCounter = 0 ∧ u.tri.lengthCounter = 0)

/-! ## Register reads -/

/-- R140 (that bits 7..5 read 0 and that a read has no side effect is decision D24; log entry 12): the $4015
read completes in every state, hands back one bit per running length counter and 0 in the other bits, and changes nothing
else; it is what the bus returns at $4015, and the bus returns 0 everywhere else. -/
def Obligations.StatusRead : Prop :=
  ∀ s : State, ∃ b : Byte,
    exec .rdStatus s = .next { s with outputs := s.outputs ++ [.readByte b] } ∧
    b.toNat = (if s.sq1.lengthCounter.toNat > 0 then 1 else 0) +
      (if s.sq2.lengthCounter.toNat > 0 then 2 else 0) + (if s.tri.lengthCounter.toNat > 0 then 4 else 0) ∧
    ∀ a : Addr, busRead s a = if a = 0x4015 then b else 0

/-! ## TICK: timers -/

/-- R150: a TICK completes in every state and is the timer stage, then the frame-sequencer stage, then the sample
stage. -/
def Obligations.TickRunsItsThreeStages : Prop :=
  ∀ s : State, exec .tick s = .next (sampleStep (frameTick (timerStep s)))

/-- R153: one clock of a timer with a sequence of 2^w steps: a counter at 0 reloads from the period and advances
the position modulo the sequence length, any other counter goes down by one. -/
def Obligations.TimerClockRule : Prop :=
  ∀ (w : Nat) (period counter : Period) (position : BitVec w),
    (counter.toNat = 0 → (timerClock period counter position).1 = period ∧
      (timerClock period counter position).2.toNat = (position.toNat + 1) % 2 ^ w) ∧
    (counter.toNat ≠ 0 → (timerClock period counter position).1.toNat = counter.toNat - 1 ∧
      (timerClock period counter position).2 = position)

/-- R151, R154, R155 (the parity's phase is decision D3, the ungated triangle decision D21; log entries 10 and
11): on every TICK the triangle timer is clocked with its period, both square timers are clocked exactly where the parity is
1, and the parity toggles, whatever the channels' gates hold. -/
def Obligations.TickClocksTheTimers : Prop :=
  ∀ s : State, ∃ t, exec .tick s = .next t ∧
    t.apu.apuParity.toNat = 1 - s.apu.apuParity.toNat ∧
    (t.tri.timerCounter, t.tri.sequencePosition) =
      timerClock s.tri.timerPeriod s.tri.timerCounter s.tri.sequencePosition ∧
    (s.apu.apuParity = 1 →
      (t.sq1.timerCounter, t.sq1.sequencePosition) =
        timerClock s.sq1.timerPeriod s.sq1.timerCounter s.sq1.sequencePosition ∧
      (t.sq2.timerCounter, t.sq2.sequencePosition) =
        timerClock s.sq2.timerPeriod s.sq2.timerCounter s.sq2.sequencePosition) ∧
    (s.apu.apuParity = 0 →
      t.sq1.timerCounter = s.sq1.timerCounter ∧ t.sq1.sequencePosition = s.sq1.sequencePosition ∧
      t.sq2.timerCounter = s.sq2.timerCounter ∧ t.sq2.sequencePosition = s.sq2.sequencePosition)

/-- The frame of TICK (R150 "State written", R67): the configuration, the operations still issued, the enable
flags, every field that only a register write writes, and the bus's answer at every address but $4015 are unchanged; at most
one value is handed back. -/
def Obligations.TickFrame : Prop :=
  ∀ s : State, ∃ t, exec .tick s = .next t ∧
    t.config = s.config ∧ t.pending = s.pending ∧
    (∃ emitted, t.outputs = s.outputs ++ emitted ∧ emitted.length ≤ 1) ∧
    t.fs.mode = s.fs.mode ∧ t.fs.frameIrqInhibit = s.fs.frameIrqInhibit ∧
    t.apu.noiseEnabled = s.apu.noiseEnabled ∧ t.apu.dmcEnabled = s.apu.dmcEnabled ∧
    (∀ n : SquareId,
      (t.square n).enabled = (s.square n).enabled ∧ (t.square n).lengthHalt = (s.square n).lengthHalt ∧
      (t.square n).constantVolume = (s.square n).constantVolume ∧
      (t.square n).volume = (s.square n).volume ∧ (t.square n).duty = (s.square n).duty ∧
      (t.square n).sweepEnabled = (s.square n).sweepEnabled ∧
      (t.square n).sweepPeriod = (s.square n).sweepPeriod ∧
      (t.square n).sweepNegate = (s.square n).sweepNegate ∧
      (t.square n).sweepShift = (s.square n).sweepShift) ∧
    t.tri.enabled = s.tri.enabled ∧ t.tri.controlFlag = s.tri.controlFlag ∧
    t.tri.linearReloadValue = s.tri.linearReloadValue ∧ t.tri.timerPeriod = s.tri.timerPeriod ∧
    ∀ a : Addr, a ≠ 0x4015 → busRead t a = busRead s a

/-- R157 (derived in the spec), the triangle: with the counter within its period t, t + 1 TICKs advance the
sequence by one step and bring the counter back, and 32 (t + 1) TICKs bring the position back. -/
def Obligations.TriangleWaveformPeriod : Prop :=
  ∀ s : State, s.tri.timerCounter.toNat ≤ s.tri.timerPeriod.toNat →
    (tickCycle^[s.tri.timerPeriod.toNat + 1] s).tri.timerCounter = s.tri.timerCounter ∧
    (tickCycle^[s.tri.timerPeriod.toNat + 1] s).tri.sequencePosition = s.tri.sequencePosition + 1 ∧
    (tickCycle^[32 * (s.tri.timerPeriod.toNat + 1)] s).tri.timerCounter = s.tri.timerCounter ∧
    (tickCycle^[32 * (s.tri.timerPeriod.toNat + 1)] s).tri.sequencePosition = s.tri.sequencePosition

/-- R157 (derived in the spec), a square channel whose period no sweep changes: 2 (t + 1) TICKs advance the
sequence by one step and bring the counter back, and 16 (t + 1) TICKs bring the position back. -/
def Obligations.SquareWaveformPeriod : Prop :=
  ∀ (s : State) (n : SquareId), (s.square n).sweepEnabled = false →
    (s.square n).timerCounter.toNat ≤ (s.square n).timerPeriod.toNat →
    ((tickCycle^[2 * ((s.square n).timerPeriod.toNat + 1)] s).square n).timerCounter =
      (s.square n).timerCounter ∧
    ((tickCycle^[2 * ((s.square n).timerPeriod.toNat + 1)] s).square n).sequencePosition =
      (s.square n).sequencePosition + 1 ∧
    ((tickCycle^[16 * ((s.square n).timerPeriod.toNat + 1)] s).square n).timerCounter =
      (s.square n).timerCounter ∧
    ((tickCycle^[16 * ((s.square n).timerPeriod.toNat + 1)] s).square n).sequencePosition =
      (s.square n).sequencePosition

/-! ## The frame sequencer -/

/-- R220 over the step tables of the mode (R221: the 4-step mode takes the tables of 4 entries, the 5-step mode those
of 5): where the next step has the given offset and action, a frame tick that does not reach the offset only counts; one that
reaches it sends the half-frame clock, then the quarter-frame clock, as the action says, and moves to the next step, after the last
one back to step 0 with the counter at 0. -/
def Obligations.FrameTickRule : Prop :=
  ∀ (s : State) (offsets : List Nat) (actions : List FrameAction) (steps offset : Nat) (action : FrameAction),
    ModeTables s offsets actions steps →
    offsets[s.fs.stepIndex.val]? = some offset → actions[s.fs.stepIndex.val]? = some action →
    (s.fs.cycleCounter + 1 ≠ offset →
      frameTick s = { s with fs := { s.fs with cycleCounter := s.fs.cycleCounter + 1 } }) ∧
    (s.fs.cycleCounter + 1 = offset → ∃ h q index,
      h = (if action.half then halfFrame s else s) ∧ q = (if action.quarter then quarterFrame h else h) ∧
      index.val = (s.fs.stepIndex.val + 1) % steps ∧
      frameTick s =
        { q with fs :=
          { s.fs with
            stepIndex := index
            cycleCounter := if s.fs.stepIndex.val + 1 = steps then 0 else offset } })

/-- R222, R223: a half-frame clock clocks the three length counters and then the two sweep units, a quarter-frame
clock the two envelope units and then the linear counter, and neither changes anything else. -/
def Obligations.FrameClocksReachTheirUnits : Prop :=
  ∀ s : State,
    halfFrame s =
      { s with
        sq1 := sweepClock .one (squareLengthClock s.sq1)
        sq2 := sweepClock .two (squareLengthClock s.sq2)
        tri := triangleLengthClock s.tri } ∧
    quarterFrame s =
      { s with sq1 := envelopeClock s.sq1, sq2 := envelopeClock s.sq2, tri := linearClock s.tri }

/-- R224 (derived in the spec): the order of the clocks of one step cannot be observed. -/
def Obligations.FrameClockOrderIsUnobservable : Prop :=
  (∀ s : State, halfFrame (quarterFrame s) = quarterFrame (halfFrame s)) ∧
  ∀ (n : SquareId) (q : Square), sweepClock n (squareLengthClock q) = squareLengthClock (sweepClock n q)

/-- R291 (derived in the spec), R281: from the start of a sequence no frame step fires before the first step
offset, so every unit the steps clock stands still, and the sequencer only counts. -/
def Obligations.NoFrameClockBeforeTheFirstOffset : Prop :=
  ∀ (s : State) (offsets : List Nat) (actions : List FrameAction) (steps first n : Nat),
    ModeTables s offsets actions steps → s.fs.stepIndex = 0 → s.fs.cycleCounter = 0 →
    offsets[0]? = some first → n < first →
    (tickCycle^[n] s).fs = { s.fs with cycleCounter := n } ∧
    (∀ q : SquareId,
      ((tickCycle^[n] s).square q).lengthCounter = (s.square q).lengthCounter ∧
      ((tickCycle^[n] s).square q).envelopeStart = (s.square q).envelopeStart ∧
      ((tickCycle^[n] s).square q).envelopeDivider = (s.square q).envelopeDivider ∧
      ((tickCycle^[n] s).square q).envelopeDecay = (s.square q).envelopeDecay ∧
      ((tickCycle^[n] s).square q).timerPeriod = (s.square q).timerPeriod ∧
      ((tickCycle^[n] s).square q).sweepReload = (s.square q).sweepReload ∧
      ((tickCycle^[n] s).square q).sweepDivider = (s.square q).sweepDivider) ∧
    (tickCycle^[n] s).tri.lengthCounter = s.tri.lengthCounter ∧
    (tickCycle^[n] s).tri.linearCounter = s.tri.linearCounter ∧
    (tickCycle^[n] s).tri.linearReload = s.tri.linearReload

/-- R220, R53 over every well-formed configuration and the tables of the mode: n TICKs after the start of a sequence
the counter is n and the step index is the number of offsets passed, until the last offset, where the sequencer is back at its
start. R227 with the default tables for any quarter frame of q cycles (decisions D5, D6; log entry 7): within a sequence the
quarter-frame clock comes on the TICKs q, 2q, 3q, 4q and, in 5-step mode, 5q, the half-frame clock on 2q, 4q and, in 5-step mode,
5q, and on no other TICK; and State.reset has q = 7457. -/
def Obligations.FrameSequenceFollowsItsTable : Prop :=
  (∀ (s : State) (offsets : List Nat) (actions : List FrameAction) (steps last : Nat),
    ModeTables s offsets actions steps → s.config.WellFormed →
    s.fs.stepIndex = 0 → s.fs.cycleCounter = 0 → offsets.getLast? = some last →
    (∀ n, n < last →
      (tickCycle^[n] s).fs.cycleCounter = n ∧
      (tickCycle^[n] s).fs.stepIndex.val = (offsets.filter (· ≤ n)).length) ∧
    (tickCycle^[last] s).fs = s.fs) ∧
  (∀ (s : State) (q n : Nat), 0 < q →
    s.config.frameStepCycles4 = (configAtQuarter q).frameStepCycles4 →
    s.config.frameStepCycles5 = (configAtQuarter q).frameStepCycles5 →
    s.config.frameActions4 = (configAtQuarter q).frameActions4 →
    s.config.frameActions5 = (configAtQuarter q).frameActions5 →
    s.fs.stepIndex = 0 → s.fs.cycleCounter = 0 →
    n + 1 ≤ (match s.fs.mode with | .fourStep => 4 * q | .fiveStep => 5 * q) →
    ∃ timed halved clocked,
      timed = timerStep (tickCycle^[n] s) ∧
      halved = (if n + 1 = 2 * q ∨ n + 1 = 4 * q ∨ n + 1 = 5 * q then halfFrame timed else timed) ∧
      clocked = (if q ∣ n + 1 then quarterFrame halved else halved) ∧
      (tickCycle^[n + 1] s).sq1 = clocked.sq1 ∧ (tickCycle^[n + 1] s).sq2 = clocked.sq2 ∧
      (tickCycle^[n + 1] s).tri = clocked.tri) ∧
  State.reset.config = configAtQuarter 7457 ∧ State.reset.config.quarterFrameCycles = 7457

/-! ## The frame units -/

/-- R200 (the triangle's halt flag is decision D20; log entry 10): a length clock lowers a counter by one, never
below 0, unless its channel's halt flag holds it, and changes nothing else. -/
def Obligations.LengthClockRule : Prop :=
  (∀ q : Square, ∃ c : BitVec 8, squareLengthClock q = { q with lengthCounter := c } ∧
    c.toNat = if q.lengthHalt then q.lengthCounter.toNat else q.lengthCounter.toNat - 1) ∧
  (∀ t : Triangle, ∃ c : BitVec 8, triangleLengthClock t = { t with lengthCounter := c } ∧
    c.toNat = if t.controlFlag then t.lengthCounter.toNat else t.lengthCounter.toNat - 1)

/-- R201 (derived in the spec): whatever the operation, a length counter rises only by its own channel's
high-byte write. -/
def Obligations.LengthNeverRisesBetweenLoads : Prop :=
  ∀ (i : Instr) (s t : State), exec i s = .next t →
    (i.mnemonic ≠ "WR_SQ1_THI" → t.sq1.lengthCounter.toNat ≤ s.sq1.lengthCounter.toNat) ∧
    (i.mnemonic ≠ "WR_SQ2_THI" → t.sq2.lengthCounter.toNat ≤ s.sq2.lengthCounter.toNat) ∧
    (i.mnemonic ≠ "WR_TRI_THI" → t.tri.lengthCounter.toNat ≤ s.tri.lengthCounter.toNat)

/-- R182 (the start branch is decision D17; log entry 9): the three branches of an envelope clock, which writes
nothing but the envelope's fields. -/
def Obligations.EnvelopeClockRule : Prop :=
  ∀ q : Square,
    (q.envelopeStart = true →
      envelopeClock q =
        { q with envelopeStart := false, envelopeDecay := 15, envelopeDivider := q.volume }) ∧
    (q.envelopeStart = false → q.envelopeDivider.toNat = 0 → ∃ d : BitVec 4,
      envelopeClock q = { q with envelopeDivider := q.volume, envelopeDecay := d } ∧
      d.toNat = if q.envelopeDecay.toNat > 0 then q.envelopeDecay.toNat - 1
        else if q.lengthHalt then 15 else 0) ∧
    (q.envelopeStart = false → q.envelopeDivider.toNat > 0 → ∃ d : BitVec 4,
      envelopeClock q = { q with envelopeDivider := d } ∧ d.toNat = q.envelopeDivider.toNat - 1)

/-- R184 (derived in the spec) with the loop flag: from decay 15 with the divider just reloaded, each level lasts
V + 1 clocks and the whole cycle 16 (V + 1). -/
def Obligations.EnvelopeLoopCycle : Prop :=
  ∀ q : Square, q.envelopeStart = false → q.lengthHalt = true → q.envelopeDecay = 15 →
    q.envelopeDivider = q.volume →
    (∀ n, n < 16 * (q.volume.toNat + 1) →
      (envelopeClock^[n] q).envelopeDecay.toNat = 15 - n / (q.volume.toNat + 1)) ∧
    envelopeClock^[16 * (q.volume.toNat + 1)] q = q

/-- R184 (derived in the spec) without the loop flag: from decay 15 with the divider just reloaded, each level
lasts V + 1 clocks and the level 0 stays. -/
def Obligations.EnvelopeDecaysToZeroAndStays : Prop :=
  ∀ (q : Square) (n : Nat), q.envelopeStart = false → q.lengthHalt = false → q.envelopeDecay = 15 →
    q.envelopeDivider = q.volume →
    (envelopeClock^[n] q).envelopeDecay.toNat = 15 - n / (q.volume.toNat + 1)

/-- R190, R191 (Square1's offset is decision D15, the mute at every use decision D16; log entry 8): the target's
value, its range, and the mute condition. -/
def Obligations.SweepTargetAndMute : Prop :=
  ∀ q : Square,
    (∀ n : SquareId, -1 ≤ sweepTarget n q ∧ sweepTarget n q ≤ 4094 ∧
      (sweepMute n q = true ↔ sweepTarget n q < 0 ∨ sweepTarget n q > 2047)) ∧
    (q.sweepNegate = false → ∀ n : SquareId,
      sweepTarget n q = q.timerPeriod.toNat + (q.timerPeriod.toNat / 2 ^ q.sweepShift.toNat : Nat)) ∧
    (q.sweepNegate = true →
      sweepTarget .one q = q.timerPeriod.toNat - (q.timerPeriod.toNat / 2 ^ q.sweepShift.toNat : Nat) - 1 ∧
      sweepTarget .two q = q.timerPeriod.toNat - (q.timerPeriod.toNat / 2 ^ q.sweepShift.toNat : Nat))

/-- R193 (derived in the spec; log entry 8): the corner cases (a), (b) and (c) of the mute, and (d): an update
writes exactly the target, which then lies in 0 to 0x7FF. -/
def Obligations.SweepCornerCases : Prop :=
  ∀ q : Square,
    (q.sweepShift = 0 → q.sweepNegate = false → ∀ n : SquareId,
      (sweepMute n q = true ↔ 0x400 ≤ q.timerPeriod.toNat)) ∧
    (q.sweepShift = 0 → q.sweepNegate = true → sweepMute .one q = true ∧ sweepMute .two q = false) ∧
    (q.sweepShift ≠ 0 → q.sweepNegate = true →
      (sweepMute .one q = true ↔ q.timerPeriod = 0) ∧ sweepMute .two q = false) ∧
    (q.sweepShift = 0 → ∀ n : SquareId, (sweepClock n q).timerPeriod = q.timerPeriod) ∧
    ∀ n : SquareId, (sweepClock n q).timerPeriod = q.timerPeriod ∨
      (((sweepClock n q).timerPeriod.toNat : Int) = sweepTarget n q ∧
        0 ≤ sweepTarget n q ∧ sweepTarget n q ≤ 0x7FF)

/-- R192 (the reload flag and the order are decision D14, no block below period 8 decision D32; log entry 8): a
sweep clock updates the period exactly where the divider is 0, the unit enabled, the shift positive and the channel not muted;
it reloads the divider at 0 or on the flag and else counts down; it clears the flag where it reloads, and changes nothing else. -/
def Obligations.SweepClockRule : Prop :=
  ∀ (n : SquareId) (q : Square), ∃ (p : Period) (d : BitVec 3) (r : Bool),
    sweepClock n q = { q with timerPeriod := p, sweepDivider := d, sweepReload := r } ∧
    (p.toNat : Int) =
      (if q.sweepDivider.toNat = 0 ∧ q.sweepEnabled = true ∧ q.sweepShift.toNat > 0 ∧ sweepMute n q = false
        then sweepTarget n q else q.timerPeriod.toNat) ∧
    d.toNat =
      (if q.sweepDivider.toNat = 0 ∨ q.sweepReload = true then q.sweepPeriod.toNat
        else q.sweepDivider.toNat - 1) ∧
    r = (if q.sweepDivider.toNat = 0 ∨ q.sweepReload = true then false else q.sweepReload)

/-- R192 (decision D14; log entry 8): a sweep divider just reloaded with P counts P, P - 1, ..., 0 and is back at
P after P + 1 half-frame clocks. -/
def Obligations.SweepDividerCycle : Prop :=
  ∀ (n : SquareId) (q : Square), q.sweepReload = false → q.sweepDivider = q.sweepPeriod →
    (∀ k, k ≤ q.sweepPeriod.toNat →
      ((sweepClock n)^[k] q).sweepDivider.toNat = q.sweepPeriod.toNat - k) ∧
    ((sweepClock n)^[q.sweepPeriod.toNat + 1] q).sweepDivider = q.sweepPeriod

/-- R202, R203 (decision D19; log entry 10): after the reload flag is set, the next quarter-frame clock loads the
reload value R; with the control flag every later clock loads it again, and without it the counter counts down to 0 and
stays there. -/
def Obligations.LinearCounterCounts : Prop :=
  ∀ (t : Triangle) (k : Nat), t.linearReload = true →
    (t.controlFlag = true → linearClock^[k + 1] t = { t with linearCounter := t.linearReloadValue }) ∧
    (t.controlFlag = false →
      (linearClock^[k + 1] t).linearCounter.toNat = t.linearReloadValue.toNat - k ∧
      (linearClock^[k + 1] t).linearReload = false)

/-! ## Outputs, mixer and samples -/

/-- R240, R93, R183, R241 (the duty table's values are decision D9, the mute decision D16, the ramp decision D10, the
triangle's gate on the output decision D21; log entries 6, 8 and 10): a square channel's output is its volume where every gate is
open and the entry at its sequence position of row duty of the duty table is 1 (R93), and 0 otherwise; the triangle's output is the ramp at its position where it is enabled and both
counters run, and 0 otherwise. -/
def Obligations.ChannelOutputRules : Prop :=
  (∀ (s : State) (n : SquareId) (q : Square), q = s.square n →
    (squareOutput s n).toNat =
      if q.enabled = true ∧ q.lengthCounter.toNat > 0 ∧ q.timerPeriod.toNat ≥ 8 ∧
        (0 ≤ sweepTarget n q ∧ sweepTarget n q ≤ 0x7FF) ∧
        (s.config.dutyTable.entries[q.duty.toNat]?).bind (·.entries[q.sequencePosition.toNat]?) = some true
      then (if q.constantVolume then q.volume.toNat else q.envelopeDecay.toNat) else 0) ∧
  ∀ s : State,
    some (triangleOutput s) =
      if s.tri.enabled = true ∧ s.tri.lengthCounter.toNat > 0 ∧ s.tri.linearCounter.toNat > 0
      then s.config.triTable.entries[s.tri.sequencePosition.toNat]? else some 0

/-- R242 (the index forms are decision D11; log entry 6): the mix is the pulse table at the sum of the square
outputs plus the second table at three times the triangle's output. -/
def Obligations.MixRule : Prop :=
  ∀ s : State, ∃ a b,
    s.config.pulseMix.entries[(squareOutput s .one).toNat + (squareOutput s .two).toNat]? = some a ∧
    s.config.tndMix.entries[3 * (triangleOutput s).toNat]? = some b ∧ mix s = a + b

/-- R243 (the tables are decision D11; log entry 6): both default tables are strictly increasing, so with
them the mix is 0 exactly when every channel output is 0. -/
def Obligations.DefaultMixIsZeroExactlyInSilence : Prop :=
  (∀ (k : Nat) (h : k + 1 < 31),
    defaultPulseMix.get k (Nat.lt_of_succ_lt h) < defaultPulseMix.get (k + 1) h) ∧
  (∀ (k : Nat) (h : k + 1 < 203),
    defaultTndMix.get k (Nat.lt_of_succ_lt h) < defaultTndMix.get (k + 1) h) ∧
  ∀ s : State, s.config.pulseMix = defaultPulseMix → s.config.tndMix = defaultTndMix →
    (mix s = 0 ↔ squareOutput s .one = 0 ∧ squareOutput s .two = 0 ∧ triangleOutput s = 0)

/-- R244: a SAMPLE completes in every state, hands the mix of the current state back and changes nothing else. -/
def Obligations.SampleReturnsTheMix : Prop :=
  ∀ s : State, exec .sample s = .next { s with outputs := s.outputs ++ [.sampled (mix s)] }

/-- R246 (derived in the spec): the amplitude a TICK emits is the one a SAMPLE right after it returns. -/
def Obligations.EmittedAmplitudeIsTheNextSample : Prop :=
  ∀ s t u : State, exec .tick s = .next t → exec .sample t = .next u →
    ∃ a, u.outputs = t.outputs ++ [.sampled a] ∧
      (t.outputs = s.outputs ∨ t.outputs = s.outputs ++ [.emitted a])

/-- R245, R247 (the schedule is decision D12; log entry 4), over every setting of `SAMPLE_PERIOD`: with none no
TICK emits; with P, of P TICKs from a sample counter of 0 the last one alone emits, the mix of its own end state. -/
def Obligations.SampleScheduleFiresEveryPeriod : Prop :=
  (∀ (s : State) (n : Nat), s.config.samplePeriod = none →
    (tickCycle^[n] s).outputs = s.outputs ∧
    (tickCycle^[n] s).apu.sampleCounter = s.apu.sampleCounter) ∧
  ∀ (s : State) (p : Nat), s.config.samplePeriod = some p → 0 < p → s.apu.sampleCounter = 0 →
    (∀ n, n < p → (tickCycle^[n] s).outputs = s.outputs ∧ (tickCycle^[n] s).apu.sampleCounter = n) ∧
    (tickCycle^[p] s).outputs = s.outputs ++ [.emitted (mix (tickCycle^[p] s))] ∧
    (tickCycle^[p] s).apu.sampleCounter = 0

/-! ## The whole machine -/

/-- R58: no operation and no step writes the configuration. -/
def Obligations.ConfigurationIsConstant : Prop :=
  (∀ (i : Instr) (s t : State), exec i s = .next t → t.config = s.config) ∧
  ∀ s t : State, step s = .next t → t.config = s.config

/-- The "written by" and "written only by" clauses of 10_state.md (R24 to R57), for every field it names, over every
operation: a field changes only by an operation whose rule writes it. (A field with several writers is named with all of them;
a 5-step $4017 write and a TICK clock the frame units.) The configuration and the operations still issued are changed by none. -/
def Obligations.FieldsChangeOnlyByTheirWriters : Prop :=
  ∀ (i : Instr) (s t : State), exec i s = .next t →
    t.config = s.config ∧ t.pending = s.pending ∧
    (i.mnemonic ∉ ["RD_STATUS", "RD_ZERO", "TICK", "SAMPLE"] → t.outputs = s.outputs) ∧
    -- R24, R42, R56
    (i.mnemonic ∉ ["WR_STATUS"] →
      t.sq1.enabled = s.sq1.enabled ∧ t.sq2.enabled = s.sq2.enabled ∧ t.tri.enabled = s.tri.enabled ∧
      t.apu.noiseEnabled = s.apu.noiseEnabled ∧ t.apu.dmcEnabled = s.apu.dmcEnabled) ∧
    -- R51, R54
    (i.mnemonic ∉ ["WR_FRAME"] →
      t.fs.mode = s.fs.mode ∧ t.fs.frameIrqInhibit = s.fs.frameIrqInhibit) ∧
    -- R26 to R29
    (i.mnemonic ∉ ["WR_SQ1_CTRL"] →
      t.sq1.duty = s.sq1.duty ∧ t.sq1.lengthHalt = s.sq1.lengthHalt ∧
      t.sq1.constantVolume = s.sq1.constantVolume ∧ t.sq1.volume = s.sq1.volume) ∧
    (i.mnemonic ∉ ["WR_SQ2_CTRL"] →
      t.sq2.duty = s.sq2.duty ∧ t.sq2.lengthHalt = s.sq2.lengthHalt ∧
      t.sq2.constantVolume = s.sq2.constantVolume ∧ t.sq2.volume = s.sq2.volume) ∧
    -- R36 to R39
    (i.mnemonic ∉ ["WR_SQ1_SWEEP"] →
      t.sq1.sweepEnabled = s.sq1.sweepEnabled ∧ t.sq1.sweepPeriod = s.sq1.sweepPeriod ∧
      t.sq1.sweepNegate = s.sq1.sweepNegate ∧ t.sq1.sweepShift = s.sq1.sweepShift) ∧
    (i.mnemonic ∉ ["WR_SQ2_SWEEP"] →
      t.sq2.sweepEnabled = s.sq2.sweepEnabled ∧ t.sq2.sweepPeriod = s.sq2.sweepPeriod ∧
      t.sq2.sweepNegate = s.sq2.sweepNegate ∧ t.sq2.sweepShift = s.sq2.sweepShift) ∧
    -- R44, R45
    (i.mnemonic ∉ ["WR_TRI_CTRL"] →
      t.tri.controlFlag = s.tri.controlFlag ∧ t.tri.linearReloadValue = s.tri.linearReloadValue) ∧
    -- R30, R48
    (i.mnemonic ∉ ["WR_SQ1_TLO", "WR_SQ1_THI", "WR_FRAME", "TICK"] → t.sq1.timerPeriod = s.sq1.timerPeriod) ∧
    (i.mnemonic ∉ ["WR_SQ2_TLO", "WR_SQ2_THI", "WR_FRAME", "TICK"] → t.sq2.timerPeriod = s.sq2.timerPeriod) ∧
    (i.mnemonic ∉ ["WR_TRI_TLO", "WR_TRI_THI"] → t.tri.timerPeriod = s.tri.timerPeriod) ∧
    -- R31, R49, R55, R57
    (i.mnemonic ∉ ["TICK"] →
      t.sq1.timerCounter = s.sq1.timerCounter ∧ t.sq2.timerCounter = s.sq2.timerCounter ∧
      t.tri.timerCounter = s.tri.timerCounter ∧ t.apu.apuParity = s.apu.apuParity ∧
      t.apu.sampleCounter = s.apu.sampleCounter) ∧
    -- R34, R35, R41, R46, R52, R53
    (i.mnemonic ∉ ["WR_FRAME", "TICK"] →
      t.sq1.envelopeDivider = s.sq1.envelopeDivider ∧ t.sq2.envelopeDivider = s.sq2.envelopeDivider ∧
      t.sq1.envelopeDecay = s.sq1.envelopeDecay ∧ t.sq2.envelopeDecay = s.sq2.envelopeDecay ∧
      t.sq1.sweepDivider = s.sq1.sweepDivider ∧ t.sq2.sweepDivider = s.sq2.sweepDivider ∧
      t.tri.linearCounter = s.tri.linearCounter ∧
      t.fs.stepIndex = s.fs.stepIndex ∧ t.fs.cycleCounter = s.fs.cycleCounter) ∧
    -- R25, R43
    (i.mnemonic ∉ ["WR_SQ1_THI", "WR_STATUS", "WR_FRAME", "TICK"] →
      t.sq1.lengthCounter = s.sq1.lengthCounter) ∧
    (i.mnemonic ∉ ["WR_SQ2_THI", "WR_STATUS", "WR_FRAME", "TICK"] →
      t.sq2.lengthCounter = s.sq2.lengthCounter) ∧
    (i.mnemonic ∉ ["WR_TRI_THI", "WR_STATUS", "WR_FRAME", "TICK"] →
      t.tri.lengthCounter = s.tri.lengthCounter) ∧
    -- R32, R50
    (i.mnemonic ∉ ["WR_SQ1_THI", "TICK"] → t.sq1.sequencePosition = s.sq1.sequencePosition) ∧
    (i.mnemonic ∉ ["WR_SQ2_THI", "TICK"] → t.sq2.sequencePosition = s.sq2.sequencePosition) ∧
    (i.mnemonic ∉ ["WR_TRI_THI", "TICK"] → t.tri.sequencePosition = s.tri.sequencePosition) ∧
    -- R33, R40, R47
    (i.mnemonic ∉ ["WR_SQ1_THI", "WR_FRAME", "TICK"] → t.sq1.envelopeStart = s.sq1.envelopeStart) ∧
    (i.mnemonic ∉ ["WR_SQ2_THI", "WR_FRAME", "TICK"] → t.sq2.envelopeStart = s.sq2.envelopeStart) ∧
    (i.mnemonic ∉ ["WR_SQ1_SWEEP", "WR_FRAME", "TICK"] → t.sq1.sweepReload = s.sq1.sweepReload) ∧
    (i.mnemonic ∉ ["WR_SQ2_SWEEP", "WR_FRAME", "TICK"] → t.sq2.sweepReload = s.sq2.sweepReload) ∧
    (i.mnemonic ∉ ["WR_TRI_THI", "WR_FRAME", "TICK"] → t.tri.linearReload = s.tri.linearReload)

/-- R54, R56 (decisions D25 and D27; log entry 12): the noise flag, the DMC flag and the interrupt-inhibit flag are
read by nothing: whatever they hold, every operation does the same to everything else, the values handed back among it. -/
def Obligations.StubFlagsAreReadByNothing : Prop :=
  ∀ (i : Instr) (s t : State) (noise dmc inhibit : Bool), exec i s = .next t →
    ∃ noise' dmc' inhibit',
      exec i (withStubs s noise dmc inhibit) = .next (withStubs t noise' dmc' inhibit')

/-- R191 ("it mutes only its own channel"), R105, R224: no channel influences another channel, the frame sequencer
or the global state; what depends on all three channels is only what the host gets back. -/
def Obligations.ChannelsDoNotInfluenceEachOther : Prop :=
  ∀ (i : Instr) (s1 s2 t1 t2 : State), exec i s1 = .next t1 → exec i s2 = .next t2 →
    (AgreeOutsideSquare1 s1 s2 → AgreeOutsideSquare1 t1 t2) ∧
    (AgreeOutsideSquare2 s1 s2 → AgreeOutsideSquare2 t1 t2) ∧
    (AgreeOutsideTriangle s1 s2 → AgreeOutsideTriangle t1 t2)

/-- R280, R59: the invariant holds at power-on, for every well-formed configuration, and at the machine's reset. -/
def Obligations.InvariantHoldsAtPowerOn : Prop :=
  (∀ c : Config, c.WellFormed → Inv (State.powerOn c)) ∧ Inv State.reset

/-- Every step keeps the invariant (R59, R226, R247), from every state that meets it. -/
def Obligations.InvariantIsKeptByEveryStep : Prop :=
  ∀ s t : State, Inv s → step s = .next t → Inv t

/-- R59 (derived in the spec), over every well-formed configuration (what well-formed asks is log entry 3) and every
sequence of host operations, issued and applied through the model's queue (log entry 1): its five invariants hold in every reachable
state. -/
def Obligations.SpecInvariantsHoldInEveryReachableState : Prop :=
  ∀ c : Config, c.WellFormed → ∀ s : State, Reachable c s → SpecInvariants s
end

