-- ==== Sys2Proof/Laws/Decode.lean ====
section
/-!
SUPPORT. What the fields of an operation word hold, said once: the kind, address and data of the words of the
program notation, and decoding through them.
-/

namespace Sys2Proof

theorem kindField_bit (op : OpWord) (i : Nat) (hi : i < 2) : (kindField op)[i] = op.getLsbD (24 + i) := by
  simp [kindField]

theorem addrField_bit (op : OpWord) (i : Nat) (hi : i < 16) : (addrField op)[i] = op.getLsbD (8 + i) := by
  simp [addrField]

theorem dataField_bit (op : OpWord) (i : Nat) (hi : i < 8) : (dataField op)[i] = op.getLsbD i := by
  simp [dataField]

@[simp] theorem kindField_writeOp (a : Addr) (d : Byte) : kindField (writeOp a d) = 1#2 := by
  ext i hi
  rw [kindField_bit, writeOp]
  obtain rfl | rfl : i = 0 ∨ i = 1 := by omega
  · simp
  · simp

@[simp] theorem addrField_writeOp (a : Addr) (d : Byte) : addrField (writeOp a d) = a := by
  ext i hi
  have h : (0x1000000#26).getLsbD (8 + i) = false := by
    have : ∀ k : Fin 16, (0x1000000#26).getLsbD (8 + k.val) = false := by decide
    exact this ⟨i, hi⟩
  have hd : d.getLsbD (8 + i) = false := BitVec.getLsbD_of_ge _ _ (by omega)
  simp only [addrField_bit _ i hi, writeOp, BitVec.getLsbD_or, h, BitVec.getLsbD_shiftLeft,
    BitVec.getLsbD_setWidth, hd, ← BitVec.getLsbD_eq_getElem hi]
  simp [show 8 + i < 26 by omega, show i < 26 by omega]

@[simp] theorem dataField_writeOp (a : Addr) (d : Byte) : dataField (writeOp a d) = d := by
  ext i hi
  have h : (0x1000000#26).getLsbD i = false := by
    have : ∀ k : Fin 8, (0x1000000#26).getLsbD k.val = false := by decide
    exact this ⟨i, hi⟩
  simp only [dataField_bit _ i hi, writeOp, BitVec.getLsbD_or, h, BitVec.getLsbD_shiftLeft,
    BitVec.getLsbD_setWidth, ← BitVec.getLsbD_eq_getElem hi]
  simp [hi, show i < 26 by omega]

@[simp] theorem kindField_readOp (a : Addr) : kindField (readOp a) = 0#2 := by
  ext i hi
  rw [kindField_bit, readOp]
  obtain rfl | rfl : i = 0 ∨ i = 1 := by omega
  · simp
  · simp

@[simp] theorem addrField_readOp (a : Addr) : addrField (readOp a) = a := by
  ext i hi
  simp only [addrField_bit _ i hi, readOp, BitVec.getLsbD_shiftLeft, BitVec.getLsbD_setWidth,
    ← BitVec.getLsbD_eq_getElem hi]
  simp [show 8 + i < 26 by omega, show i < 26 by omega]

/-- A WRITE word decodes as the register decoder says (R80, R83). -/
@[simp] theorem decode_writeOp (a : Addr) (d : Byte) : decode (writeOp a d) = decodeWrite a d := by
  simp [decode]

/-- A READ word decodes as the register decoder says (R80, R83). -/
@[simp] theorem decode_readOp (a : Addr) : decode (readOp a) = decodeRead a := by
  simp [decode]

@[simp] theorem decode_tickOp : decode tickOp = .tick := by decide

@[simp] theorem decode_sampleOp : decode sampleOp = .sample := by decide

/-- A word is its three fields side by side (R80). -/
theorem fields_or (op : OpWord) :
    (kindField op).setWidth 26 <<< 24 ||| (addrField op).setWidth 26 <<< 8 ||| (dataField op).setWidth 26
      = op := by
  ext i hi
  simp only [kindField, addrField, dataField, BitVec.getElem_or, BitVec.getElem_shiftLeft,
    BitVec.getElem_setWidth, BitVec.getLsbD_extractLsb']
  by_cases h1 : i < 8
  · simp [h1, show i < 24 by omega, BitVec.getLsbD_eq_getElem hi]
  · by_cases h2 : i < 24
    · simp [h1, h2, show i - 8 < 16 by omega, show 8 + (i - 8) = i by omega,
        BitVec.getLsbD_eq_getElem hi]
    · simp [h1, h2, show ¬ i - 8 < 16 by omega, show i - 24 < 2 by omega,
        show 24 + (i - 24) = i by omega, BitVec.getLsbD_eq_getElem hi]

@[simp] theorem modeOfBit_bitOfMode (m : FrameMode) : modeOfBit (bitOfMode m) = m := by cases m <;> rfl

@[simp] theorem bitOfMode_modeOfBit (b : Bool) : bitOfMode (modeOfBit b) = b := by cases b <;> rfl

end Sys2Proof
end

