-- ==== Sys2Proof/Laws/State.lean ====
section
/-!
SUPPORT. One lemma per field per update of the state, each true by definition: after them no proof unfolds a
record update of the state.
-/

namespace Sys2Proof.Machine

/-! ## Access by channel index -/

@[simp] theorem State.square_one (s : State) : s.square .one = s.sq1 := rfl
@[simp] theorem State.square_two (s : State) : s.square .two = s.sq2 := rfl
@[simp] theorem State.setSquare_one_sq1 (s : State) (q : Square) : (s.setSquare .one q).sq1 = q := rfl
@[simp] theorem State.setSquare_one_sq2 (s : State) (q : Square) : (s.setSquare .one q).sq2 = s.sq2 := rfl
@[simp] theorem State.setSquare_two_sq1 (s : State) (q : Square) : (s.setSquare .two q).sq1 = s.sq1 := rfl
@[simp] theorem State.setSquare_two_sq2 (s : State) (q : Square) : (s.setSquare .two q).sq2 = q := rfl
@[simp] theorem State.setSquare_tri (s : State) (n : SquareId) (q : Square) :
    (s.setSquare n q).tri = s.tri := by cases n <;> rfl
@[simp] theorem State.setSquare_fs (s : State) (n : SquareId) (q : Square) :
    (s.setSquare n q).fs = s.fs := by cases n <;> rfl
@[simp] theorem State.setSquare_apu (s : State) (n : SquareId) (q : Square) :
    (s.setSquare n q).apu = s.apu := by cases n <;> rfl
@[simp] theorem State.setSquare_config (s : State) (n : SquareId) (q : Square) :
    (s.setSquare n q).config = s.config := by cases n <;> rfl
@[simp] theorem State.setSquare_pending (s : State) (n : SquareId) (q : Square) :
    (s.setSquare n q).pending = s.pending := by cases n <;> rfl
@[simp] theorem State.setSquare_outputs (s : State) (n : SquareId) (q : Square) :
    (s.setSquare n q).outputs = s.outputs := by cases n <;> rfl

/-! ## The other units -/

@[simp] theorem State.setTri_sq1 (s : State) (t : Triangle) : (s.setTri t).sq1 = s.sq1 := rfl
@[simp] theorem State.setTri_sq2 (s : State) (t : Triangle) : (s.setTri t).sq2 = s.sq2 := rfl
@[simp] theorem State.setTri_tri (s : State) (t : Triangle) : (s.setTri t).tri = t := rfl
@[simp] theorem State.setTri_fs (s : State) (t : Triangle) : (s.setTri t).fs = s.fs := rfl
@[simp] theorem State.setTri_apu (s : State) (t : Triangle) : (s.setTri t).apu = s.apu := rfl
@[simp] theorem State.setTri_config (s : State) (t : Triangle) : (s.setTri t).config = s.config := rfl
@[simp] theorem State.setTri_pending (s : State) (t : Triangle) : (s.setTri t).pending = s.pending := rfl
@[simp] theorem State.setTri_outputs (s : State) (t : Triangle) : (s.setTri t).outputs = s.outputs := rfl

@[simp] theorem State.setFs_sq1 (s : State) (f : FrameSequencer) : (s.setFs f).sq1 = s.sq1 := rfl
@[simp] theorem State.setFs_sq2 (s : State) (f : FrameSequencer) : (s.setFs f).sq2 = s.sq2 := rfl
@[simp] theorem State.setFs_tri (s : State) (f : FrameSequencer) : (s.setFs f).tri = s.tri := rfl
@[simp] theorem State.setFs_fs (s : State) (f : FrameSequencer) : (s.setFs f).fs = f := rfl
@[simp] theorem State.setFs_apu (s : State) (f : FrameSequencer) : (s.setFs f).apu = s.apu := rfl
@[simp] theorem State.setFs_config (s : State) (f : FrameSequencer) : (s.setFs f).config = s.config := rfl
@[simp] theorem State.setFs_pending (s : State) (f : FrameSequencer) : (s.setFs f).pending = s.pending := rfl
@[simp] theorem State.setFs_outputs (s : State) (f : FrameSequencer) : (s.setFs f).outputs = s.outputs := rfl

@[simp] theorem State.setApu_sq1 (s : State) (g : Global) : (s.setApu g).sq1 = s.sq1 := rfl
@[simp] theorem State.setApu_sq2 (s : State) (g : Global) : (s.setApu g).sq2 = s.sq2 := rfl
@[simp] theorem State.setApu_tri (s : State) (g : Global) : (s.setApu g).tri = s.tri := rfl
@[simp] theorem State.setApu_fs (s : State) (g : Global) : (s.setApu g).fs = s.fs := rfl
@[simp] theorem State.setApu_apu (s : State) (g : Global) : (s.setApu g).apu = g := rfl
@[simp] theorem State.setApu_config (s : State) (g : Global) : (s.setApu g).config = s.config := rfl
@[simp] theorem State.setApu_pending (s : State) (g : Global) : (s.setApu g).pending = s.pending := rfl
@[simp] theorem State.setApu_outputs (s : State) (g : Global) : (s.setApu g).outputs = s.outputs := rfl

/-! ## The host interface -/

@[simp] theorem State.respond_sq1 (s : State) (o : Output) : (s.respond o).sq1 = s.sq1 := rfl
@[simp] theorem State.respond_sq2 (s : State) (o : Output) : (s.respond o).sq2 = s.sq2 := rfl
@[simp] theorem State.respond_tri (s : State) (o : Output) : (s.respond o).tri = s.tri := rfl
@[simp] theorem State.respond_fs (s : State) (o : Output) : (s.respond o).fs = s.fs := rfl
@[simp] theorem State.respond_apu (s : State) (o : Output) : (s.respond o).apu = s.apu := rfl
@[simp] theorem State.respond_config (s : State) (o : Output) : (s.respond o).config = s.config := rfl
@[simp] theorem State.respond_pending (s : State) (o : Output) : (s.respond o).pending = s.pending := rfl
@[simp] theorem State.respond_outputs (s : State) (o : Output) :
    (s.respond o).outputs = s.outputs ++ [o] := rfl

@[simp] theorem State.issue_sq1 (s : State) (op : OpWord) : (s.issue op).sq1 = s.sq1 := rfl
@[simp] theorem State.issue_sq2 (s : State) (op : OpWord) : (s.issue op).sq2 = s.sq2 := rfl
@[simp] theorem State.issue_tri (s : State) (op : OpWord) : (s.issue op).tri = s.tri := rfl
@[simp] theorem State.issue_fs (s : State) (op : OpWord) : (s.issue op).fs = s.fs := rfl
@[simp] theorem State.issue_apu (s : State) (op : OpWord) : (s.issue op).apu = s.apu := rfl
@[simp] theorem State.issue_config (s : State) (op : OpWord) : (s.issue op).config = s.config := rfl
@[simp] theorem State.issue_pending (s : State) (op : OpWord) :
    (s.issue op).pending = s.pending ++ [op] := rfl
@[simp] theorem State.issue_outputs (s : State) (op : OpWord) : (s.issue op).outputs = s.outputs := rfl

/-! ## Power-on -/

@[simp] theorem State.powerOn_sq1 (c : Config) : (State.powerOn c).sq1 = Square.powerOn := rfl
@[simp] theorem State.powerOn_sq2 (c : Config) : (State.powerOn c).sq2 = Square.powerOn := rfl
@[simp] theorem State.powerOn_tri (c : Config) : (State.powerOn c).tri = Triangle.powerOn := rfl
@[simp] theorem State.powerOn_config (c : Config) : (State.powerOn c).config = c := rfl
@[simp] theorem State.powerOn_pending (c : Config) : (State.powerOn c).pending = [] := rfl
@[simp] theorem State.powerOn_outputs (c : Config) : (State.powerOn c).outputs = [] := rfl

end Sys2Proof.Machine
end

