-- ==== Sys2Proof/Laws/Ops.lean ====
section
/-!
SUPPORT. For each shared operation, what it can do, said once: the clocks of the units case by case, the
frames of the half-frame and quarter-frame clocks, of the frame tick and of the sample stage, the outcome of each operation,
and the stages of TICK. Later proofs cite these and do not unfold the operations.
-/

namespace Sys2Proof.Machine

/-! ## The length load and the length clock (R102, R200) -/

@[simp] theorem lengthLoad_disabled (c : Config) (index : BitVec 5) (counter : BitVec 8) :
    lengthLoad c false index counter = counter := rfl

@[simp] theorem lengthLoad_enabled (c : Config) (index : BitVec 5) (counter : BitVec 8) :
    lengthLoad c true index counter = c.lengthTable.get index.toNat index.isLt := rfl

@[simp] theorem lengthStep_halted (counter : BitVec 8) : lengthStep true counter = counter := by
  simp [lengthStep]

@[simp] theorem lengthStep_zero (halt : Bool) : lengthStep halt 0#8 = 0#8 := by simp [lengthStep]

theorem lengthStep_running {counter : BitVec 8} (h : counter ≠ 0#8) :
    lengthStep false counter = counter - 1#8 := by simp [lengthStep, h]

/-- A length clock never raises the counter, and lowers it by at most one. -/
theorem lengthStep_toNat (halt : Bool) (counter : BitVec 8) :
    (lengthStep halt counter).toNat = if halt then counter.toNat else counter.toNat - 1 := by
  cases halt
  · by_cases h : counter = 0#8
    · subst h; rfl
    · have h1 : 1 ≤ counter.toNat := by
        rcases Nat.eq_zero_or_pos counter.toNat with h0 | h0
        · exact absurd (BitVec.eq_of_toNat_eq h0) h
        · exact h0
      rw [lengthStep_running h]
      simp [BitVec.toNat_sub]; omega
  · simp

/-! ## The timer clock (R153) -/

theorem timerClock_reload {w : Nat} (period : Period) (position : BitVec w) :
    timerClock period 0#11 position = (period, position + 1#w) := rfl

theorem timerClock_count {w : Nat} {counter : Period} (h : counter ≠ 0#11) (period : Period)
    (position : BitVec w) : timerClock period counter position = (counter - 1#11, position) := by
  simp [timerClock, h]

/-! ## The envelope, sweep and linear clocks (R182, R192, R202) -/

theorem envelopeClock_start {q : Square} (h : q.envelopeStart = true) :
    envelopeClock q = { q with envelopeStart := false, envelopeDecay := 15#4, envelopeDivider := q.volume } := by
  simp [envelopeClock, h]

theorem envelopeClock_expire {q : Square} (h : q.envelopeStart = false) (hd : q.envelopeDivider = 0#4) :
    envelopeClock q =
      { q with
        envelopeDivider := q.volume
        envelopeDecay := if q.envelopeDecay ≠ 0#4 then q.envelopeDecay - 1#4
          else if q.lengthHalt then 15#4 else q.envelopeDecay } := by
  simp [envelopeClock, h, hd]

theorem envelopeClock_count {q : Square} (h : q.envelopeStart = false) (hd : q.envelopeDivider ≠ 0#4) :
    envelopeClock q = { q with envelopeDivider := q.envelopeDivider - 1#4 } := by
  simp [envelopeClock, h, hd]

/-- An envelope clock writes only the envelope's own three fields. -/
theorem envelopeClock_frame (q : Square) : ∃ start divider decay,
    envelopeClock q =
      { q with envelopeStart := start, envelopeDivider := divider, envelopeDecay := decay } := by
  unfold envelopeClock
  split
  · exact ⟨_, _, _, rfl⟩
  · split
    · exact ⟨q.envelopeStart, _, _, rfl⟩
    · exact ⟨q.envelopeStart, _, q.envelopeDecay, rfl⟩

/-- A sweep clock writes only the period, the reload flag and the divider. -/
theorem sweepClock_frame (n : SquareId) (q : Square) : ∃ period reload divider,
    sweepClock n q =
      { q with timerPeriod := period, sweepReload := reload, sweepDivider := divider } := ⟨_, _, _, rfl⟩

theorem sweepClock_timerPeriod (n : SquareId) (q : Square) :
    (sweepClock n q).timerPeriod =
      if sweepUpdates n q then BitVec.ofInt 11 (sweepTarget n q) else q.timerPeriod := rfl

theorem sweepClock_sweepDivider (n : SquareId) (q : Square) :
    (sweepClock n q).sweepDivider = if sweepReloads q then q.sweepPeriod else q.sweepDivider - 1#3 := rfl

/-- After a sweep clock no reload is due. -/
theorem sweepClock_sweepReload (n : SquareId) (q : Square) : (sweepClock n q).sweepReload = false := by
  cases h : q.sweepReload <;> simp [sweepClock, sweepReloads, h]

/-! ## The half-frame and quarter-frame clocks (R222, R223) -/

@[simp] theorem halfFrame_fs (s : State) : (halfFrame s).fs = s.fs := rfl
@[simp] theorem halfFrame_apu (s : State) : (halfFrame s).apu = s.apu := rfl
@[simp] theorem halfFrame_config (s : State) : (halfFrame s).config = s.config := rfl
@[simp] theorem halfFrame_pending (s : State) : (halfFrame s).pending = s.pending := rfl
@[simp] theorem halfFrame_outputs (s : State) : (halfFrame s).outputs = s.outputs := rfl
@[simp] theorem quarterFrame_fs (s : State) : (quarterFrame s).fs = s.fs := rfl
@[simp] theorem quarterFrame_apu (s : State) : (quarterFrame s).apu = s.apu := rfl
@[simp] theorem quarterFrame_config (s : State) : (quarterFrame s).config = s.config := rfl
@[simp] theorem quarterFrame_pending (s : State) : (quarterFrame s).pending = s.pending := rfl
@[simp] theorem quarterFrame_outputs (s : State) : (quarterFrame s).outputs = s.outputs := rfl

/-- What a half-frame clock can do to a square channel. -/
theorem halfFrame_square_frame (n : SquareId) (q : Square) : ∃ period reload divider,
    sweepClock n (squareLengthClock q) =
      { q with
        lengthCounter := lengthStep q.lengthHalt q.lengthCounter
        timerPeriod := period
        sweepReload := reload
        sweepDivider := divider } := by
  obtain ⟨p, r, d, h⟩ := sweepClock_frame n (squareLengthClock q)
  exact ⟨p, r, d, by rw [h]; rfl⟩

/-! ## The clocks of one frame step (R220) -/

@[simp] theorem sendClocks_fs (a : FrameAction) (s : State) : (sendClocks a s).fs = s.fs := by
  rcases a with ⟨_ | _, _ | _⟩ <;> rfl
@[simp] theorem sendClocks_apu (a : FrameAction) (s : State) : (sendClocks a s).apu = s.apu := by
  rcases a with ⟨_ | _, _ | _⟩ <;> rfl
@[simp] theorem sendClocks_config (a : FrameAction) (s : State) : (sendClocks a s).config = s.config := by
  rcases a with ⟨_ | _, _ | _⟩ <;> rfl
@[simp] theorem sendClocks_pending (a : FrameAction) (s : State) : (sendClocks a s).pending = s.pending := by
  rcases a with ⟨_ | _, _ | _⟩ <;> rfl
@[simp] theorem sendClocks_outputs (a : FrameAction) (s : State) : (sendClocks a s).outputs = s.outputs := by
  rcases a with ⟨_ | _, _ | _⟩ <;> rfl

/-- Everything the frame tick can do: count a cycle, or count it and take the step that is due. -/
theorem frameTick_cases (s : State) :
    frameTick s = countCycle s ∨
    ∃ offset action, frameStepAt s.config s.fs.mode s.fs.stepIndex = some (offset, action) ∧
      s.fs.cycleCounter + 1 = offset ∧
      frameTick s = (sendClocks action (countCycle s)).setFs (advanceStep (countCycle s).fs) := by
  unfold frameTick
  split
  · next offset action h =>
    split
    · next hc => exact .inr ⟨offset, action, h, hc, by simp⟩
    · exact .inl rfl
  · exact .inl rfl

@[simp] theorem countCycle_sq1 (s : State) : (countCycle s).sq1 = s.sq1 := rfl
@[simp] theorem countCycle_sq2 (s : State) : (countCycle s).sq2 = s.sq2 := rfl
@[simp] theorem countCycle_tri (s : State) : (countCycle s).tri = s.tri := rfl
@[simp] theorem countCycle_apu (s : State) : (countCycle s).apu = s.apu := rfl
@[simp] theorem countCycle_config (s : State) : (countCycle s).config = s.config := rfl
@[simp] theorem countCycle_pending (s : State) : (countCycle s).pending = s.pending := rfl
@[simp] theorem countCycle_outputs (s : State) : (countCycle s).outputs = s.outputs := rfl

@[simp] theorem frameTick_apu (s : State) : (frameTick s).apu = s.apu := by
  rcases frameTick_cases s with h | ⟨_, _, _, _, h⟩ <;> rw [h] <;> simp
@[simp] theorem frameTick_config (s : State) : (frameTick s).config = s.config := by
  rcases frameTick_cases s with h | ⟨_, _, _, _, h⟩ <;> rw [h] <;> simp
@[simp] theorem frameTick_pending (s : State) : (frameTick s).pending = s.pending := by
  rcases frameTick_cases s with h | ⟨_, _, _, _, h⟩ <;> rw [h] <;> simp
@[simp] theorem frameTick_outputs (s : State) : (frameTick s).outputs = s.outputs := by
  rcases frameTick_cases s with h | ⟨_, _, _, _, h⟩ <;> rw [h] <;> simp

/-! ## The timer and sample stages (R151, R247) -/

@[simp] theorem timerStep_fs (s : State) : (timerStep s).fs = s.fs := by
  unfold timerStep; split <;> rfl
@[simp] theorem timerStep_config (s : State) : (timerStep s).config = s.config := by
  unfold timerStep; split <;> rfl
@[simp] theorem timerStep_pending (s : State) : (timerStep s).pending = s.pending := by
  unfold timerStep; split <;> rfl
@[simp] theorem timerStep_outputs (s : State) : (timerStep s).outputs = s.outputs := by
  unfold timerStep; split <;> rfl
@[simp] theorem timerStep_tri (s : State) : (timerStep s).tri = triangleTimerClock s.tri := by
  unfold timerStep; split <;> rfl
@[simp] theorem timerStep_apu (s : State) :
    (timerStep s).apu = { s.apu with apuParity := 1#1 - s.apu.apuParity } := by
  unfold timerStep; split <;> rfl
theorem timerStep_sq1 (s : State) :
    (timerStep s).sq1 = if s.apu.apuParity = 1#1 then squareTimerClock s.sq1 else s.sq1 := by
  unfold timerStep; split <;> rfl
theorem timerStep_sq2 (s : State) :
    (timerStep s).sq2 = if s.apu.apuParity = 1#1 then squareTimerClock s.sq2 else s.sq2 := by
  unfold timerStep; split <;> rfl

@[simp] theorem sampleStep_sq1 (s : State) : (sampleStep s).sq1 = s.sq1 := rfl
@[simp] theorem sampleStep_sq2 (s : State) : (sampleStep s).sq2 = s.sq2 := rfl
@[simp] theorem sampleStep_tri (s : State) : (sampleStep s).tri = s.tri := rfl
@[simp] theorem sampleStep_fs (s : State) : (sampleStep s).fs = s.fs := rfl
@[simp] theorem sampleStep_config (s : State) : (sampleStep s).config = s.config := rfl
@[simp] theorem sampleStep_pending (s : State) : (sampleStep s).pending = s.pending := rfl

/-- The mixer reads the three channels and the configuration, nothing else. -/
theorem mix_congr {s t : State} (h1 : s.sq1 = t.sq1) (h2 : s.sq2 = t.sq2) (h3 : s.tri = t.tri)
    (hc : s.config = t.config) : mix s = mix t := by
  have ho : ∀ n, squareOutput s n = squareOutput t n := by
    intro n
    have hq : s.square n = t.square n := by cases n <;> assumption
    unfold squareOutput
    rw [hq, hc]
  have ht : triangleOutput s = triangleOutput t := by simp [triangleOutput, h3, hc]
  simp [mix, pulseIndex, tndIndex, ho, ht, hc]

@[simp] theorem mix_sampleStep (s : State) : mix (sampleStep s) = mix s := mix_congr rfl rfl rfl rfl

/-! ## Each operation's outcome -/

theorem exec_tick (s : State) : exec .tick s = .next (tickCycle s) := rfl
theorem exec_sample (s : State) : exec .sample s = .next (s.respond (.sampled (mix s))) := rfl
theorem exec_rdStatus (s : State) : exec .rdStatus s = .next (s.respond (.readByte (statusByte s))) := rfl
theorem exec_rdZero (a : Addr) (s : State) : exec (.rdZero a) s = .next (s.respond (.readByte 0#8)) := rfl
theorem exec_wrIgnored (a : Addr) (d : Byte) (s : State) : exec (.wrIgnored a d) s = .next s := rfl

/-- The outcome of a step: nothing issued, or the next operation's outcome. -/
theorem step_cases (s : State) :
    (s.pending = [] ∧ step s = .next s) ∨
    ∃ op rest, s.pending = op :: rest ∧ step s = exec (decode op) { s with pending := rest } := by
  unfold step nextOperation
  cases h : s.pending with
  | nil => exact .inl ⟨rfl, rfl⟩
  | cons op rest => exact .inr ⟨op, rest, rfl, rfl⟩

end Sys2Proof.Machine
end

