-- ==== Sys2Proof/Laws/Operands.lean ====
section
/-!
SUPPORT. The operands as numbers: the two halves of a timer period, counters that go down by one, and the tables a
mode selects.
-/

namespace Sys2Proof.Machine

/-! ## Counters -/

theorem eq_zero_iff_toNat {w : Nat} (x : BitVec w) : x = 0#w ↔ x.toNat = 0 := by
  constructor
  · rintro rfl; simp
  · intro h; exact BitVec.eq_of_toNat_eq (by simp [h])

/-- A counter that is not 0 goes down by one without wrapping (R17). -/
theorem toNat_sub_one {w : Nat} (x : BitVec w) (h : 0 < x.toNat) : (x - 1#w).toNat = x.toNat - 1 := by
  have hx := x.isLt
  have hw : w ≠ 0 := by rintro rfl; omega
  have h1 : 1 < 2 ^ w := Nat.one_lt_two_pow hw
  simp only [BitVec.toNat_sub, BitVec.toNat_ofNat, Nat.mod_eq_of_lt h1]
  rw [show 2 ^ w - 1 + x.toNat = 2 ^ w + (x.toNat - 1) by omega, Nat.add_mod_left, Nat.mod_eq_of_lt (by omega)]

/-! ## Timer periods (R92) -/

theorem periodWithLow_toNat (period : Period) (low : Byte) :
    (periodWithLow period low).toNat = period.toNat / 256 * 256 + low.toNat := by
  have hlow := low.isLt
  have hhigh : (period.extractLsb' 8 3).toNat = period.toNat / 256 := by
    have := period.isLt
    simp [BitVec.extractLsb'_toNat, Nat.shiftRight_eq_div_pow]; omega
  refine (BitVec.toNat_append (period.extractLsb' 8 3) low).trans ?_
  rw [hhigh, ← Nat.shiftLeft_add_eq_or_of_lt hlow, Nat.shiftLeft_eq]

theorem periodWithHigh_toNat (period : Period) (high : BitVec 3) :
    (periodWithHigh period high).toNat = high.toNat * 256 + period.toNat % 256 := by
  have hlow : (period.extractLsb' 0 8).toNat = period.toNat % 256 := by simp [BitVec.extractLsb'_toNat]
  refine (BitVec.toNat_append high (period.extractLsb' 0 8)).trans ?_
  rw [hlow, ← Nat.shiftLeft_add_eq_or_of_lt (Nat.mod_lt _ (by decide)), Nat.shiftLeft_eq]

/-! ## Tables (R58, R221) -/

theorem Table.getElem?_eq {α : Type} {n : Nat} (t : Table α n) (i : Nat) (h : i < n) :
    t.entries[i]? = some (t.get i h) := by
  simp [Table.get, t.size, h]

@[simp] theorem stepOffsets_length (c : Config) (m : FrameMode) : (stepOffsets c m).length = stepCount m := by
  cases m
  · exact c.frameStepCycles4.size
  · exact c.frameStepCycles5.size

@[simp] theorem stepActions_length (c : Config) (m : FrameMode) : (stepActions c m).length = stepCount m := by
  cases m
  · exact c.frameActions4.size
  · exact c.frameActions5.size

theorem stepCount_le_five (m : FrameMode) : stepCount m ≤ 5 := by cases m <;> decide

/-- The default configuration is well formed for every positive `QUARTER_FRAME_CYCLES` (R221). -/
theorem configAtQuarter_wellFormed {quarter : Nat} (h : 0 < quarter) : (configAtQuarter quarter).WellFormed := by
  simp only [Config.WellFormed, configAtQuarter, evenStepCycles4, evenStepCycles5, List.map_cons, List.map_nil,
    List.pairwise_cons, List.mem_cons, List.not_mem_nil]
  refine ⟨?_, ?_, by simp⟩ <;> simp <;> omega

/-- A mode has a step at an index exactly where both its tables have an entry there. -/
theorem frameStepAt_eq_some {c : Config} {m : FrameMode} {index : Fin 5} {offset : Nat} {action : FrameAction} :
    frameStepAt c m index = some (offset, action) ↔
      (stepOffsets c m)[index.val]? = some offset ∧ (stepActions c m)[index.val]? = some action := by
  unfold frameStepAt
  split
  · next h1 h2 => simp [h1, h2]
  · next h =>
    constructor
    · intro hn; cases hn
    · rintro ⟨h1, h2⟩; exact absurd h2 (h _ _ h1)

/-- Below `N_m` there is a step. -/
theorem frameStepAt_isSome {c : Config} {m : FrameMode} {index : Fin 5} (h : index.val < stepCount m) :
    ∃ offset action, frameStepAt c m index = some (offset, action) := by
  have h1 : index.val < (stepOffsets c m).length := by simpa using h
  have h2 : index.val < (stepActions c m).length := by simpa using h
  exact ⟨_, _, frameStepAt_eq_some.mpr ⟨List.getElem?_eq_getElem h1, List.getElem?_eq_getElem h2⟩⟩

end Sys2Proof.Machine
end

