-- ==== Sys2Proof/Laws/Frames.lean ====
section
/-!
SUPPORT. What the clocks of the frame sequencer keep of each channel, said once for each channel and lifted to the
frame tick; and what the timer stage keeps.
-/

namespace Sys2Proof.Machine

/-! ## Square channels -/

/-- What every frame clock keeps of a square channel: the fields only writes and timers write, and the period where
the sweep is disabled; the length counter does not rise. -/
structure SquareKept (q r : Square) : Prop where
  enabled : r.enabled = q.enabled
  lengthHalt : r.lengthHalt = q.lengthHalt
  constantVolume : r.constantVolume = q.constantVolume
  volume : r.volume = q.volume
  duty : r.duty = q.duty
  timerCounter : r.timerCounter = q.timerCounter
  sequencePosition : r.sequencePosition = q.sequencePosition
  sweepEnabled : r.sweepEnabled = q.sweepEnabled
  sweepPeriod : r.sweepPeriod = q.sweepPeriod
  sweepNegate : r.sweepNegate = q.sweepNegate
  sweepShift : r.sweepShift = q.sweepShift
  lengthCounter : r.lengthCounter.toNat ≤ q.lengthCounter.toNat
  timerPeriod : q.sweepEnabled = false → r.timerPeriod = q.timerPeriod

theorem SquareKept.refl (q : Square) : SquareKept q q := by constructor <;> simp

theorem SquareKept.trans {q r u : Square} (h : SquareKept q r) (g : SquareKept r u) : SquareKept q u where
  enabled := g.enabled.trans h.enabled
  lengthHalt := g.lengthHalt.trans h.lengthHalt
  constantVolume := g.constantVolume.trans h.constantVolume
  volume := g.volume.trans h.volume
  duty := g.duty.trans h.duty
  timerCounter := g.timerCounter.trans h.timerCounter
  sequencePosition := g.sequencePosition.trans h.sequencePosition
  sweepEnabled := g.sweepEnabled.trans h.sweepEnabled
  sweepPeriod := g.sweepPeriod.trans h.sweepPeriod
  sweepNegate := g.sweepNegate.trans h.sweepNegate
  sweepShift := g.sweepShift.trans h.sweepShift
  lengthCounter := g.lengthCounter.trans h.lengthCounter
  timerPeriod e := (g.timerPeriod (h.sweepEnabled.trans e)).trans (h.timerPeriod e)

theorem lengthStep_le (halt : Bool) (counter : BitVec 8) : (lengthStep halt counter).toNat ≤ counter.toNat := by
  rw [lengthStep_toNat]; split <;> omega

/-- The half-frame clock of a square channel. -/
theorem halfFrame_square_kept (n : SquareId) (q : Square) : SquareKept q (sweepClock n (squareLengthClock q)) := by
  constructor
  case lengthCounter => exact lengthStep_le _ _
  case timerPeriod => intro h; simp [sweepClock, sweepUpdates, squareLengthClock, h]
  all_goals rfl

/-- The quarter-frame clock of a square channel. -/
theorem envelopeClock_kept (q : Square) : SquareKept q (envelopeClock q) := by
  obtain ⟨_, _, _, h⟩ := envelopeClock_frame q
  constructor <;> simp [h]

/-! ## The triangle -/

/-- What every frame clock keeps of the triangle. -/
structure TriangleKept (t u : Triangle) : Prop where
  enabled : u.enabled = t.enabled
  controlFlag : u.controlFlag = t.controlFlag
  linearReloadValue : u.linearReloadValue = t.linearReloadValue
  timerPeriod : u.timerPeriod = t.timerPeriod
  timerCounter : u.timerCounter = t.timerCounter
  sequencePosition : u.sequencePosition = t.sequencePosition
  lengthCounter : u.lengthCounter.toNat ≤ t.lengthCounter.toNat

theorem TriangleKept.refl (t : Triangle) : TriangleKept t t := by constructor <;> simp

theorem triangleLengthClock_kept (t : Triangle) : TriangleKept t (triangleLengthClock t) := by
  constructor
  case lengthCounter => exact lengthStep_le _ _
  all_goals rfl

theorem linearClock_kept (t : Triangle) : TriangleKept t (linearClock t) := by constructor <;> simp [linearClock]

theorem TriangleKept.trans {t u v : Triangle} (h : TriangleKept t u) (g : TriangleKept u v) : TriangleKept t v where
  enabled := g.enabled.trans h.enabled
  controlFlag := g.controlFlag.trans h.controlFlag
  linearReloadValue := g.linearReloadValue.trans h.linearReloadValue
  timerPeriod := g.timerPeriod.trans h.timerPeriod
  timerCounter := g.timerCounter.trans h.timerCounter
  sequencePosition := g.sequencePosition.trans h.sequencePosition
  lengthCounter := g.lengthCounter.trans h.lengthCounter

/-! ## One frame step, and the frame tick -/

/-- What the clocks of a frame step keep, whichever the step sends. -/
theorem sendClocks_kept (a : FrameAction) (s : State) :
    SquareKept s.sq1 (sendClocks a s).sq1 ∧ SquareKept s.sq2 (sendClocks a s).sq2 ∧
      TriangleKept s.tri (sendClocks a s).tri := by
  rcases a with ⟨_ | _, _ | _⟩
  · exact ⟨.refl _, .refl _, .refl _⟩
  · exact ⟨halfFrame_square_kept _ _, halfFrame_square_kept _ _, triangleLengthClock_kept _⟩
  · exact ⟨envelopeClock_kept _, envelopeClock_kept _, linearClock_kept _⟩
  · exact ⟨(halfFrame_square_kept _ _).trans (envelopeClock_kept _),
      (halfFrame_square_kept _ _).trans (envelopeClock_kept _),
      (triangleLengthClock_kept _).trans (linearClock_kept _)⟩

/-- What a frame tick keeps of the channels. -/
theorem frameTick_kept (s : State) :
    SquareKept s.sq1 (frameTick s).sq1 ∧ SquareKept s.sq2 (frameTick s).sq2 ∧
      TriangleKept s.tri (frameTick s).tri := by
  rcases frameTick_cases s with h | ⟨_, a, _, _, h⟩ <;> rw [h]
  · exact ⟨.refl _, .refl _, .refl _⟩
  · exact sendClocks_kept a (countCycle s)

theorem advanceStep_mode (f : FrameSequencer) : (advanceStep f).mode = f.mode := by unfold advanceStep; split <;> rfl

theorem advanceStep_frameIrqInhibit (f : FrameSequencer) :
    (advanceStep f).frameIrqInhibit = f.frameIrqInhibit := by unfold advanceStep; split <;> rfl

/-- A frame tick keeps the mode and the inhibit flag (R51, R54). -/
theorem frameTick_fs_kept (s : State) :
    (frameTick s).fs.mode = s.fs.mode ∧ (frameTick s).fs.frameIrqInhibit = s.fs.frameIrqInhibit := by
  rcases frameTick_cases s with h | ⟨_, a, _, _, h⟩ <;> rw [h]
  · exact ⟨rfl, rfl⟩
  · exact ⟨advanceStep_mode _, advanceStep_frameIrqInhibit _⟩

/-- The timer stage writes only timer counters and sequence positions of the square channels. -/
theorem timerStep_square_frame (s : State) : ∃ c1 p1 c2 p2,
    (timerStep s).sq1 = { s.sq1 with timerCounter := c1, sequencePosition := p1 } ∧
    (timerStep s).sq2 = { s.sq2 with timerCounter := c2, sequencePosition := p2 } := by
  rw [timerStep_sq1, timerStep_sq2]
  split
  · exact ⟨_, _, _, _, rfl, rfl⟩
  · exact ⟨s.sq1.timerCounter, s.sq1.sequencePosition, s.sq2.timerCounter, s.sq2.sequencePosition, rfl, rfl⟩

/-- The sample stage hands back at most one value. -/
theorem sampleStep_outputs (s : State) :
    (sampleStep s).outputs = s.outputs ∨ (sampleStep s).outputs = s.outputs ++ [.emitted (mix s)] := by
  by_cases h : (sampleSchedule s.config.samplePeriod s.apu.sampleCounter).2 = true
  · exact .inr (by simp [sampleStep, h])
  · exact .inl (by simp [sampleStep, h])

/-- The stages of a TICK read and write nothing of the operations still issued. -/
theorem tickCycle_pending (s : State) (l : List OpWord) :
    tickCycle { s with pending := l } = { tickCycle s with pending := l } := by
  have ht : timerStep { s with pending := l } = { timerStep s with pending := l } := by
    unfold timerStep; simp only; split <;> rfl
  have hf : ∀ s : State, frameTick { s with pending := l } = { frameTick s with pending := l } := by
    intro s
    unfold frameTick
    simp only
    split
    · next a _ =>
      split
      · rcases a with ⟨_ | _, _ | _⟩ <;> rfl
      · rfl
    · rfl
  have hs : ∀ s : State, sampleStep { s with pending := l } = { sampleStep s with pending := l } := by
    intro s
    have : mix { s with pending := l } = mix s := mix_congr rfl rfl rfl rfl
    simp [sampleStep, this]
  unfold tickCycle
  rw [ht, hf, hs]

end Sys2Proof.Machine
end

