-- ==== Sys2Proof/Laws/PerInstr.lean ====
section
/-!
SUPPORT. Per-operation laws about the encoding alone: the word of every well-formed operation is an operation word
of the kind and address the opcode table gives its row (R82), with every bit that row ignores zero.
-/

namespace Sys2Proof.Laws

/-- The word `op` is a WRITE word of the row with pattern `p`: the row's fixed bits are `p`'s (R82). -/
def hitsRow (p op : OpWord) : Prop := op &&& 0x3FFFF00#26 = p

/-- A WRITE word keeps its address and kind whatever its data (R80). -/
theorem hitsRow_writeOp (a : Addr) (d : Byte) : hitsRow (writeOp a 0#8) (writeOp a d) := by
  have hm : ∀ k : Fin 26, (0x3FFFF00#26).getLsbD k.val = decide (8 ≤ k.val) := by decide
  have hz : ∀ k : Fin 8, (0x1000000#26).getLsbD k.val = false := by decide
  refine BitVec.eq_of_getLsbD_eq fun i hi => ?_
  simp only [writeOp, BitVec.getLsbD_and, BitVec.getLsbD_or, BitVec.getLsbD_shiftLeft, BitVec.getLsbD_setWidth,
    hm ⟨i, hi⟩]
  by_cases h : 8 ≤ i
  · simp [h]
  · simp [h, hz ⟨i, by omega⟩]

end Sys2Proof.Laws

namespace Sys2Proof.Laws.EncodeRow

/-- The encoding of the operation lies in the opcode-table row of its mnemonic. -/
def Statement : Instr → Prop
  | .wrSq1Ctrl duty halt constant volume => hitsRow 0x1400000 (encode (.wrSq1Ctrl duty halt constant volume))
  | .wrSq1Sweep enabled period negate shift =>
    hitsRow 0x1400100 (encode (.wrSq1Sweep enabled period negate shift))
  | .wrSq1Tlo low => hitsRow 0x1400200 (encode (.wrSq1Tlo low))
  | .wrSq1Thi index high => hitsRow 0x1400300 (encode (.wrSq1Thi index high))
  | .wrSq2Ctrl duty halt constant volume => hitsRow 0x1400400 (encode (.wrSq2Ctrl duty halt constant volume))
  | .wrSq2Sweep enabled period negate shift =>
    hitsRow 0x1400500 (encode (.wrSq2Sweep enabled period negate shift))
  | .wrSq2Tlo low => hitsRow 0x1400600 (encode (.wrSq2Tlo low))
  | .wrSq2Thi index high => hitsRow 0x1400700 (encode (.wrSq2Thi index high))
  | .wrTriCtrl control reload => hitsRow 0x1400800 (encode (.wrTriCtrl control reload))
  | .wrTriTlo low => hitsRow 0x1400A00 (encode (.wrTriTlo low))
  | .wrTriThi index high => hitsRow 0x1400B00 (encode (.wrTriThi index high))
  | .wrStatus square1 square2 triangle noise dmc =>
    hitsRow 0x1401500 (encode (.wrStatus square1 square2 triangle noise dmc))
  | .wrFrame mode inhibit => hitsRow 0x1401700 (encode (.wrFrame mode inhibit))
  | .wrIgnored a d => kindField (encode (.wrIgnored a d)) = 1
  | .rdStatus => encode .rdStatus = 0x0401500
  | .rdZero a => kindField (encode (.rdZero a)) = 0
  | .tick => encode .tick = 0x2000000
  | .sample => encode .sample = 0x3000000

theorem wrSq1Ctrl (duty : BitVec 2) (halt constant : Bool) (volume : BitVec 4) :
    Statement (.wrSq1Ctrl duty halt constant volume) := hitsRow_writeOp 0x4000 _
theorem wrSq1Sweep (enabled : Bool) (period : BitVec 3) (negate : Bool) (shift : BitVec 3) :
    Statement (.wrSq1Sweep enabled period negate shift) := hitsRow_writeOp 0x4001 _
theorem wrSq1Tlo (low : Byte) : Statement (.wrSq1Tlo low) := hitsRow_writeOp 0x4002 _
theorem wrSq1Thi (index : BitVec 5) (high : BitVec 3) : Statement (.wrSq1Thi index high) :=
  hitsRow_writeOp 0x4003 _
theorem wrSq2Ctrl (duty : BitVec 2) (halt constant : Bool) (volume : BitVec 4) :
    Statement (.wrSq2Ctrl duty halt constant volume) := hitsRow_writeOp 0x4004 _
theorem wrSq2Sweep (enabled : Bool) (period : BitVec 3) (negate : Bool) (shift : BitVec 3) :
    Statement (.wrSq2Sweep enabled period negate shift) := hitsRow_writeOp 0x4005 _
theorem wrSq2Tlo (low : Byte) : Statement (.wrSq2Tlo low) := hitsRow_writeOp 0x4006 _
theorem wrSq2Thi (index : BitVec 5) (high : BitVec 3) : Statement (.wrSq2Thi index high) :=
  hitsRow_writeOp 0x4007 _
theorem wrTriCtrl (control : Bool) (reload : BitVec 7) : Statement (.wrTriCtrl control reload) :=
  hitsRow_writeOp 0x4008 _
theorem wrTriTlo (low : Byte) : Statement (.wrTriTlo low) := hitsRow_writeOp 0x400A _
theorem wrTriThi (index : BitVec 5) (high : BitVec 3) : Statement (.wrTriThi index high) :=
  hitsRow_writeOp 0x400B _
theorem wrStatus (square1 square2 triangle noise dmc : Bool) :
    Statement (.wrStatus square1 square2 triangle noise dmc) := hitsRow_writeOp 0x4015 _
theorem wrFrame (mode : FrameMode) (inhibit : Bool) : Statement (.wrFrame mode inhibit) :=
  hitsRow_writeOp 0x4017 _
theorem wrIgnored (a : Addr) (d : Byte) : Statement (.wrIgnored a d) := kindField_writeOp a d
theorem rdStatus : Statement .rdStatus := by simp only [Statement]; decide
theorem rdZero (a : Addr) : Statement (.rdZero a) := kindField_readOp a
theorem tick : Statement .tick := rfl
theorem sample : Statement .sample := rfl

end Sys2Proof.Laws.EncodeRow
end

