-- ==== Sys2Proof/Machine/Timing.lean ====
section
/-!
DEFINITION. The wall-clock formulas of rules R297 and R298, over the open parameter `CPU_CLOCK_HZ`, which
they take as an argument in any field (R13: a positive real). No state rule reads them.
-/

namespace Sys2Proof.Machine

/-- TICKs in one period of a square waveform of constant timer period `t`: 16 (t + 1) (R157). -/
def squareWaveTicks (t : Period) : Nat := 16 * (t.toNat + 1)

/-- TICKs in one period of the triangle waveform: 32 (t + 1) (R157). -/
def triangleWaveTicks (t : Period) : Nat := 32 * (t.toNat + 1)

/-- The frequency of a square channel, in Hz (R297). -/
def squareHz {K : Type} [Field K] (cpuClockHz : K) (t : Period) : K := cpuClockHz / (squareWaveTicks t : K)

/-- The frequency of the triangle channel, in Hz (R297). -/
def triangleHz {K : Type} [Field K] (cpuClockHz : K) (t : Period) : K :=
  cpuClockHz / (triangleWaveTicks t : K)

/-- The quarter-frame rate of a configuration whose step offsets are the multiples of its
`QUARTER_FRAME_CYCLES`, as the default ones are, in Hz (R298). -/
def quarterFrameHz {K : Type} [Field K] (cpuClockHz : K) (c : Config) : K :=
  cpuClockHz / (c.quarterFrameCycles : K)

/-- The half-frame rate of such a configuration in 4-step mode, with the default actions, in Hz (R298). -/
def halfFrameHz {K : Type} [Field K] (cpuClockHz : K) (c : Config) : K :=
  cpuClockHz / ((2 * c.quarterFrameCycles : Nat) : K)

/-- The rate at which a sample schedule of period `p` emits, in Hz (R298). -/
def sampleHz {K : Type} [Field K] (cpuClockHz : K) (p : Nat) : K := cpuClockHz / (p : K)

end Sys2Proof.Machine
end

