-- ==== Sys2Proof/Tests/Slice0.lean ====
section
/-!
SUPPORT. The model's own tests: the well-formedness smoke test, a decoded word for every operation, one step of every
operation, the units of the frame sequencer, and a witness for the hypotheses of every statement that has some. Every expected
value is the spec's: the vectors of 95_test_vectors.md (named V-..., L1-...), the "Example" of the rule named, or a table of the spec.
-/

namespace Sys2Proof.Tests
open Sys2Proof Sys2Proof.Machine

/-! ## Helpers -/

/-- The next state of the operation word `w`, if it has one. -/
def nextOf (w : OpWord) (s : State) : Option State :=
  match exec (decode w) s with
  | .next t => some t
  | .fault _ => none
  | .refused _ => none

/-- The reset state with other channels. -/
def withUnits (q1 q2 : Square) (t : Triangle) : State := { State.reset with sq1 := q1, sq2 := q2, tri := t }

/-- A square channel that sounds: enabled, length 5, period 0x100, duty 2, position 2, constant volume (V-O1). -/
def loud (volume : BitVec 4) : Square :=
  { Square.powerOn with
    enabled := true
    lengthCounter := 5
    timerPeriod := 0x100
    duty := 2
    sequencePosition := 2
    constantVolume := true
    volume := volume }

/-- A triangle that sounds at a position: enabled, length 10, linear counter 3 (V-O8). -/
def ringing (position : BitVec 5) : Triangle :=
  { Triangle.powerOn with
    enabled := true
    lengthCounter := 10
    linearCounter := 3
    sequencePosition := position }

/-- A square channel with a period and a sweep setting. -/
def swept (period : Period) (negate : Bool) (shift : BitVec 3) : Square :=
  { Square.powerOn with timerPeriod := period, sweepNegate := negate, sweepShift := shift }

/-- A state in the middle of a note, its frame sequencer one TICK before step 1. -/
def playing : State :=
  { withUnits (loud 15) (loud 15) (ringing 16) with
    fs := { mode := .fourStep, stepIndex := 0, cycleCounter := 7456, frameIrqInhibit := false } }

/-! ## Well-formedness (R82, R83) -/

/-- A catch-all row may not name a decoded address. -/
theorem test_ill_formed_is_refused :
    (Instr.wrIgnored 0x4000 0x00).wellFormed = false ∧ (Instr.wrIgnored 0x4017 0xFF).wellFormed = false ∧
    (Instr.rdZero 0x4015).wellFormed = false := by decide

theorem test_well_formed_is_accepted :
    (Instr.wrIgnored 0x4009 0xFF).wellFormed = true ∧ (Instr.wrIgnored 0xFFFF 0x00).wellFormed = true ∧
    (Instr.rdZero 0x4000).wellFormed = true ∧ Instr.tick.wellFormed = true := by decide

/-! ## Decoding: words written out from R80 to R91 -/

/-- The words of V-D1 to V-D4, V-D5, V-D2, V-D8. -/
theorem test_decode_square_words :
    decode 0b01_0100000000000000_10110111 = .wrSq1Ctrl 2 true true 7 ∧
    decode 0b01_0100000000000001_10101001 = .wrSq1Sweep true 2 true 1 ∧
    decode 0b01_0100000000000010_10101011 = .wrSq1Tlo 0xAB ∧
    decode 0b01_0100000000000011_11111101 = .wrSq1Thi 31 5 ∧
    decode 0b01_0100000000000100_01000000 = .wrSq2Ctrl 1 false false 0 ∧
    decode 0b01_0100000000000101_01111111 = .wrSq2Sweep false 7 true 7 ∧
    decode 0b01_0100000000000110_11111111 = .wrSq2Tlo 0xFF ∧
    decode 0b01_0100000000000111_00000111 = .wrSq2Thi 0 7 := by decide

/-- The words of V-D9, V-D10, V-D11, V-D13, V-D14, and of the ignored write of $4009. -/
theorem test_decode_other_write_words :
    decode 0b01_0100000000001000_11111111 = .wrTriCtrl true 127 ∧
    decode 0b01_0100000000001010_00110100 = .wrTriTlo 0x34 ∧
    decode 0b01_0100000000001011_00010010 = .wrTriThi 2 2 ∧
    decode 0b01_0100000000010101_00011111 = .wrStatus true true true true true ∧
    decode 0b01_0100000000010101_00001000 = .wrStatus false false false true false ∧
    decode 0b01_0100000000010111_11000000 = .wrFrame .fiveStep true ∧
    decode 0b01_0100000000010111_00111111 = .wrFrame .fourStep false ∧
    decode 0b01_0100000000001001_11111111 = .wrIgnored 0x4009 0xFF := by decide

/-- READ, TICK and SAMPLE words ("Decode of words" in 95_test_vectors.md section 2). -/
theorem test_decode_other_words :
    decode 0b00_0100000000010101_11111111 = .rdStatus ∧ decode 0b00_0100000000000000_00000000 = .rdZero 0x4000 ∧
    decode 0b10_1111111111111111_11111111 = .tick ∧ decode 0b11_0001001000110100_01010110 = .sample := by decide

/-- Every row's match word decodes to that row's operation, and a number of more than 26 bits to none. -/
theorem test_table_rows_decode :
    opcodeTable.all (fun r =>
      (decodeTableWord 32 r.pattern.toNat).map Instr.mnemonic == some r.mnemonic) = true ∧
    decodeTableWord 32 (2 ^ 26) = none := by decide

/-- `withFetchWord` puts the word where the next step takes its operation from (V-D1). -/
theorem test_withFetchWord_runs_next :
    (match step (State.reset.withFetchWord 32 0x14000B7) with
      | .next t => some (t.sq1.duty, t.sq1.volume, t.pending)
      | .fault _ => none
      | .refused _ => none) = some (2, 7, []) := by decide

/-! ## Register writes, one step each -/

/-- V-D1; the example of R100. -/
theorem test_wrSq1Ctrl :
    (nextOf 0x14000B7 State.reset).map (·.sq1) = some
      { Square.powerOn with duty := 2, lengthHalt := true, constantVolume := true, volume := 7 } ∧
    (nextOf 0x14000BF State.reset).map (·.sq1) = some
      { Square.powerOn with duty := 2, lengthHalt := true, constantVolume := true, volume := 15 } := by decide

/-- V-D3. -/
theorem test_wrSq1Sweep :
    (nextOf 0x14001A9 State.reset).map (·.sq1) = some
      { Square.powerOn with
        sweepEnabled := true
        sweepPeriod := 2
        sweepNegate := true
        sweepShift := 1
        sweepReload := true } := by decide

/-- V-D16: the low byte does not restart the phase. -/
theorem test_wrSq1Tlo :
    (nextOf 0x1400245 (withUnits { Square.powerOn with timerPeriod := 0x123, sequencePosition := 3 }
      Square.powerOn Triangle.powerOn)).map (·.sq1) =
      some { Square.powerOn with timerPeriod := 0x145, sequencePosition := 3 } := by decide

/-- L1-4: enabled, and disabled. -/
theorem test_wrSq1Thi :
    (nextOf 0x14003F8 (withUnits
      { Square.powerOn with enabled := true, sequencePosition := 5, lengthCounter := 3 }
      Square.powerOn Triangle.powerOn)).map (·.sq1) =
      some { Square.powerOn with enabled := true, lengthCounter := 30, envelopeStart := true } ∧
    (nextOf 0x14003F8 (withUnits { Square.powerOn with sequencePosition := 5 }
      Square.powerOn Triangle.powerOn)).map (·.sq1) =
      some { Square.powerOn with envelopeStart := true } := by decide

/-- The example of R105. -/
theorem test_wrSq2Ctrl :
    (nextOf 0x140044A State.reset).map (fun t => (t.sq1, t.sq2)) = some
      (Square.powerOn, { Square.powerOn with duty := 1, volume := 10 }) := by decide

/-- The example of R106. -/
theorem test_wrSq2Sweep :
    (nextOf 0x14005F7 State.reset).map (·.sq2) = some
      { Square.powerOn with
        sweepEnabled := true
        sweepPeriod := 7
        sweepShift := 7
        sweepReload := true } := by decide

/-- The example of R107. -/
theorem test_wrSq2Tlo :
    (nextOf 0x14006FD State.reset).map (·.sq2) = some { Square.powerOn with timerPeriod := 253 } := by decide

/-- The example of R108: disabled, so nothing is loaded. -/
theorem test_wrSq2Thi :
    (nextOf 0x14007F9 State.reset).map (·.sq2) = some
      { Square.powerOn with timerPeriod := 0x100, envelopeStart := true } := by decide

/-- V-D9: the linear counter is not loaded. -/
theorem test_wrTriCtrl :
    (nextOf 0x14008FF State.reset).map (·.tri) = some
      { Triangle.powerOn with controlFlag := true, linearReloadValue := 127 } := by decide

/-- The example of R111. -/
theorem test_wrTriTlo :
    (nextOf 0x1400A42 (withUnits Square.powerOn Square.powerOn
      { Triangle.powerOn with timerPeriod := 0x100 })).map (·.tri) =
      some { Triangle.powerOn with timerPeriod := 0x142 } := by decide

/-- L1-4, third row. -/
theorem test_wrTriThi :
    (nextOf 0x1400B10 (withUnits Square.powerOn Square.powerOn
      { Triangle.powerOn with enabled := true, sequencePosition := 17 })).map (·.tri) =
      some { Triangle.powerOn with enabled := true, lengthCounter := 20, linearReload := true } := by decide

/-- The example of R115. -/
theorem test_wrStatus :
    (nextOf 0x1401505 (withUnits { Square.powerOn with enabled := true, lengthCounter := 100 }
      { Square.powerOn with enabled := true, lengthCounter := 50 }
      { Triangle.powerOn with enabled := true, lengthCounter := 7 })).map
        (fun t => (t.sq1.enabled, t.sq2.enabled, t.tri.enabled,
          t.sq1.lengthCounter, t.sq2.lengthCounter, t.tri.lengthCounter)) =
      some (true, false, true, 100, 0, 7) := by decide

/-- V-D11 and V-D12: bits 7..5 are ignored. -/
theorem test_wrStatus_stubs :
    (nextOf 0x140151F State.reset).map (fun t => (t.apu.noiseEnabled, t.apu.dmcEnabled)) = some (true, true) ∧
    (nextOf 0x14015E0 playing).map (fun t => (t.sq1.enabled, t.apu.dmcEnabled)) = some (false, false) := by
  decide

/-- V-F7: the counters restart, and the half-frame clock reaches the length counter at once. -/
theorem test_wrFrame_fiveStep :
    (nextOf 0x1401780 { playing with
      fs := { mode := .fourStep, stepIndex := 2, cycleCounter := 20000, frameIrqInhibit := false } }).map
      (fun t => (t.fs, t.sq1.lengthCounter)) =
      some ({ mode := .fiveStep, stepIndex := 0, cycleCounter := 0, frameIrqInhibit := false }, 4) := by decide

/-- V-D14: a 4-step write clocks nothing. -/
theorem test_wrFrame_fourStep :
    (nextOf 0x140173F { playing with
      fs := { mode := .fiveStep, stepIndex := 1, cycleCounter := 9000, frameIrqInhibit := true } }).map
      (fun t => (t.fs, t.sq1.lengthCounter)) =
      some ({ mode := .fourStep, stepIndex := 0, cycleCounter := 0, frameIrqInhibit := false }, 5) := by decide

/-- V-D15, on any state. -/
theorem test_wrIgnored (s : State) :
    exec (decode 0x14009FF) s = .next s ∧ exec (decode 0x13FFFFF) s = .next s ∧
    exec (decode 0x1FFFFFF) s = .next s ∧ exec (decode 0x1000000) s = .next s := ⟨rfl, rfl, rfl, rfl⟩

/-! ## Reads, TICK and SAMPLE, one step each -/

/-- V-R2; V-R4: the stub flags read 0. -/
theorem test_rdStatus :
    (nextOf 0x0401500 (withUnits { Square.powerOn with enabled := true, lengthCounter := 30 }
      Square.powerOn { Triangle.powerOn with enabled := true, lengthCounter := 2 })).map (·.outputs) =
      some [.readByte 0x05] ∧
    (nextOf 0x0401500 { State.reset with
      apu := { State.reset.apu with noiseEnabled := true, dmcEnabled := true } }).map (·.outputs) =
      some [.readByte 0x00] := by decide

/-- The example of R141: a write-only register reads 0. -/
theorem test_rdZero :
    (nextOf 0x0400000 (withUnits (loud 15) Square.powerOn Triangle.powerOn)).map (·.outputs) =
      some [.readByte 0x00] := by decide

/-- V-T1; V-T12 and V-T13: both sequences wrap. -/
theorem test_tick_timers :
    (nextOf 0x2000000 State.reset).map
      (fun t => (t.tri.timerCounter, t.tri.sequencePosition, t.sq1.sequencePosition, t.apu.apuParity,
        t.fs.cycleCounter)) = some (0, 1, 0, 1, 1) ∧
    (nextOf 0x2000000 { withUnits
      { Square.powerOn with sequencePosition := 7, timerPeriod := 9 } Square.powerOn
      { Triangle.powerOn with sequencePosition := 31 } with
      apu := { State.reset.apu with apuParity := 1 } }).map
      (fun t => (t.sq1.timerCounter, t.sq1.sequencePosition, t.tri.sequencePosition, t.apu.apuParity)) =
      some (9, 0, 0, 0) := by decide

/-- V-F1, V-F6: step 1 sends the quarter-frame clock alone; step 5 of the 5-step mode sends both and wraps. -/
theorem test_tick_frame :
    (nextOf 0x2000000 playing).map
      (fun t => (t.fs.stepIndex, t.fs.cycleCounter, t.tri.linearCounter, t.tri.lengthCounter)) =
      some (1, 7457, 2, 10) ∧
    (nextOf 0x2000000 { playing with
      fs := { mode := .fiveStep, stepIndex := 4, cycleCounter := 37284, frameIrqInhibit := false } }).map
      (fun t => (t.fs.stepIndex, t.fs.cycleCounter, t.tri.linearCounter, t.tri.lengthCounter)) =
      some (0, 0, 2, 9) := by decide

/-- V-M1; V-M2, the example of R244. -/
theorem test_sample :
    (nextOf 0x3000000 State.reset).map (·.outputs) = some [.sampled 0] ∧
    (nextOf 0x3000000 (withUnits (loud 15) Square.powerOn Triangle.powerOn)).map (·.outputs) =
      some [.sampled (1791 / 12035)] := by decide +kernel

/-- V-M4, the largest value; V-M5. -/
theorem test_sample_triangle :
    (nextOf 0x3000000 (withUnits (loud 15) (loud 15) (ringing 16))).map (·.outputs) =
      some [.sampled (411429429 / 802022780)] ∧
    (nextOf 0x3000000 (withUnits Square.powerOn Square.powerOn (ringing 4))).map (·.outputs) =
      some [.sampled (49101 / 638225)] := by decide +kernel

/-! ## The units -/

/-- V-S3 to V-S8, V-S11, V-S13, V-S14. -/
theorem test_sweepTarget :
    sweepTarget .one (swept 0x100 true 1) = 0x07F ∧ sweepTarget .two (swept 0x100 true 1) = 0x080 ∧
    sweepMute .one (swept 0x100 true 0) = true ∧ sweepMute .two (swept 0x100 true 0) = false ∧
    sweepMute .one (swept 0x3FF false 0) = false ∧ sweepMute .one (swept 0x400 false 0) = true ∧
    sweepTarget .one (swept 0 true 1) = -1 ∧ sweepTarget .one (swept 0x555 false 1) = 0x7FF ∧
    sweepMute .one (swept 0x556 false 1) = true := by decide

/-- V-S20 and V-S21, first clock; V-S24: no block below period 8. -/
theorem test_sweepClock :
    (let q := sweepClock .two { swept 0x100 false 1 with
      sweepEnabled := true, sweepPeriod := 1, sweepReload := true }
    (q.timerPeriod, q.sweepDivider, q.sweepReload) = (0x180, 1, false)) ∧
    (sweepClock .one { swept 0x100 true 2 with sweepEnabled := true }).timerPeriod = 0x0BF ∧
    (sweepClock .two { swept 0x100 true 2 with sweepEnabled := true }).timerPeriod = 0x0C0 ∧
    (sweepClock .two { swept 4 false 1 with sweepEnabled := true }).timerPeriod = 6 := by decide

/-- V-E7; the clocks 48 and 49 of V-E2; V-E5, where the level stays at 0. -/
theorem test_envelopeClock :
    (let q := envelopeClock { Square.powerOn with envelopeDecay := 6, volume := 4, envelopeStart := true }
    (q.envelopeDecay, q.envelopeDivider, q.envelopeStart) = (15, 4, false)) ∧
    (let q := envelopeClock { Square.powerOn with volume := 2, lengthHalt := true }
    (q.envelopeDecay, q.envelopeDivider) = (15, 2)) ∧
    (let q := envelopeClock { Square.powerOn with volume := 3 }
    (q.envelopeDecay, q.envelopeDivider) = (0, 3)) := by decide

/-- V-L2, V-L3, V-L4. -/
theorem test_lengthClock :
    (squareLengthClock { Square.powerOn with lengthCounter := 10, lengthHalt := true }).lengthCounter = 10 ∧
    (triangleLengthClock { Triangle.powerOn with lengthCounter := 20, controlFlag := true }).lengthCounter = 20 ∧
    (triangleLengthClock { Triangle.powerOn with lengthCounter := 20 }).lengthCounter = 19 := by decide

/-- V-N1, V-N2: clock 1 of each, and a clock at 0. -/
theorem test_linearClock :
    (let t := linearClock { Triangle.powerOn with linearReloadValue := 5, linearReload := true }
    (t.linearCounter, t.linearReload) = (5, false)) ∧
    (let t := linearClock
      { Triangle.powerOn with linearReloadValue := 5, linearReload := true, controlFlag := true }
    (t.linearCounter, t.linearReload) = (5, true)) ∧
    (linearClock { Triangle.powerOn with linearReloadValue := 5 }).linearCounter = 0 := by decide

/-- V-O1 to V-O10. -/
theorem test_channel_outputs :
    squareOutput (withUnits (loud 11) Square.powerOn Triangle.powerOn) .one = 11 ∧
    squareOutput (withUnits { loud 11 with enabled := false } Square.powerOn Triangle.powerOn) .one = 0 ∧
    squareOutput (withUnits { loud 11 with timerPeriod := 7 } Square.powerOn Triangle.powerOn) .one = 0 ∧
    squareOutput (withUnits { loud 11 with timerPeriod := 0x400 } Square.powerOn Triangle.powerOn) .one = 0 ∧
    squareOutput (withUnits { loud 11 with sweepNegate := true } { loud 11 with sweepNegate := true }
      Triangle.powerOn) .two = 11 ∧
    triangleOutput (withUnits Square.powerOn Square.powerOn (ringing 20)) = 11 ∧
    triangleOutput (withUnits Square.powerOn Square.powerOn { ringing 20 with linearCounter := 0 }) = 0 := by
  decide

/-- V-L8: the default length table, index by index. -/
theorem test_length_table :
    defaultLengthTable.entries.map BitVec.toNat =
      [10, 254, 20, 2, 40, 4, 80, 6, 160, 8, 60, 10, 14, 12, 26, 14,
        12, 16, 24, 18, 48, 20, 96, 22, 192, 24, 72, 26, 16, 28, 32, 30] := by decide

/-- The mixer tables of 95_test_vectors.md section 10, reduced: entries 1, 15 and 30, and 3, 12 and 45. -/
theorem test_mix_tables :
    [pulseMixEntry 0, pulseMixEntry 1, pulseMixEntry 15, pulseMixEntry 30] =
      [0, 597 / 51425, 1791 / 12035, 1791 / 6955] ∧
    [tndMixEntry 0, tndMixEntry 3, tndMixEntry 12, tndMixEntry 45] =
      [0, 49101 / 2462900, 49101 / 638225, 147303 / 576580] := by decide +kernel

/-- The step tables of R221, and the waveform periods of L1-1. -/
theorem test_frame_tables :
    defaultConfig.quarterFrameCycles = 7457 ∧
    defaultConfig.frameStepCycles4.entries = [7457, 14914, 22371, 29828] ∧
    defaultConfig.frameStepCycles5.entries = [7457, 14914, 22371, 29828, 37285] ∧
    (configAtQuarter 100).frameStepCycles4.entries = [100, 200, 300, 400] ∧
    defaultConfig.frameActions5.entries.map (fun a => (a.quarter, a.half)) =
      [(true, false), (true, true), (true, false), (true, true), (true, true)] ∧
    squareWaveTicks 253 = 4064 ∧ squareWaveTicks 0x7FF = 32768 ∧ triangleWaveTicks 253 = 8128 ∧
    triangleWaveTicks 0 = 32 := by decide

/-- The sample schedule at its period, one before it, and with none (R247). -/
theorem test_sampleSchedule :
    sampleSchedule (some 4) 3 = (0, true) ∧ sampleSchedule (some 4) 2 = (3, false) ∧
    sampleSchedule (some 1) 0 = (0, true) ∧ sampleSchedule none 0 = (0, false) := by decide

/-! ## Witnesses: a concrete state and operands for the hypotheses of each statement -/

theorem witness_config_wellFormed : defaultConfig.WellFormed := by decide

/-- `StepRunsTheIssuedOperation`, both clauses; the largest operation word. -/
theorem witness_step_runs :
    (State.reset.issue 0x2000000).pending = 0x2000000 :: [] ∧ 2 ^ 26 - 1 < 2 ^ 26 := by decide

/-- `StepIdlesWhenNothingIsIssued`. -/
theorem witness_step_idles : State.reset.pending = [] := rfl

/-- `DecodeOfEncodeIsTheOperation`, at the edges of the catch-all rows. -/
theorem witness_wellFormed :
    (Instr.wrIgnored 0x3FFF 0).wellFormed = true ∧ (Instr.wrIgnored 0x4018 0).wellFormed = true ∧
    (Instr.rdZero 0x4014).wellFormed = true ∧ (Instr.rdZero 0x4016).wellFormed = true := by decide

/-- `WritesTakeNoTime`: a write that is not of $4017, and one that is. -/
theorem witness_writes_take_no_time :
    isWrite (.wrSq1Tlo 0) = true ∧ (∃ t, exec (.wrSq1Tlo 0) playing = .next t) ∧
    isWrite (.wrFrame .fiveStep false) = true ∧ ∃ t, exec (.wrFrame .fiveStep false) playing = .next t :=
  ⟨rfl, ⟨_, rfl⟩, rfl, ⟨_, rfl⟩⟩

/-- `RepeatedWriteIsOneWrite`: a 4-step $4017 write is among them. -/
theorem witness_repeated_write :
    isWrite (.wrFrame .fourStep true) = true ∧ (∀ b, Instr.wrFrame .fourStep true ≠ .wrFrame .fiveStep b) ∧
    ∃ t, exec (.wrFrame .fourStep true) playing = .next t := ⟨rfl, by decide, ⟨_, rfl⟩⟩

/-- `UnassignedAddressesAreIgnored`, on both sides of the decoded addresses. -/
theorem witness_unassigned :
    (0x4009 : Addr) ∉ decodedWriteAddrs ∧ (0x3FFF : Addr) ∉ decodedWriteAddrs ∧
    (0x4018 : Addr) ∉ decodedWriteAddrs ∧ (0x4014 : Addr) ≠ 0x4015 ∧ (0x4016 : Addr) ≠ 0x4015 := by decide

/-- `EnablingLoadsNoLength`, the three loads and the disable. -/
theorem witness_enabling_loads_no_length :
    (∃ t u, exec (.wrStatus true true true true true) t = .next u ∧
      exec (.wrSq1Thi 1 0) State.reset = .next t) ∧
    (∃ t u, exec (.wrStatus true true true true true) t = .next u ∧
      exec (.wrSq2Thi 1 0) State.reset = .next t) ∧
    (∃ t u, exec (.wrStatus true true true true true) t = .next u ∧
      exec (.wrTriThi 1 0) State.reset = .next t) ∧
    (∃ t u, exec (.wrStatus true true true true true) t = .next u ∧
      exec (.wrStatus false false false false false) playing = .next t) ∧
    State.reset.sq1.enabled = false ∧ State.reset.sq1.lengthCounter = 0 ∧
    State.reset.sq2.enabled = false ∧ State.reset.sq2.lengthCounter = 0 ∧
    State.reset.tri.enabled = false ∧ State.reset.tri.lengthCounter = 0 :=
  ⟨⟨_, _, rfl, rfl⟩, ⟨_, _, rfl, rfl⟩, ⟨_, _, rfl, rfl⟩, ⟨_, _, rfl, rfl⟩, by decide⟩

/-- `StatusRead` at $4015 and beside it; `TickFrame` outside $4015. -/
theorem witness_bus_addresses :
    (0x4015 : Addr) = 0x4015 ∧ (0x4014 : Addr) ≠ 0x4015 ∧ busRead playing 0x4015 = 0x07 ∧
    busRead playing 0x4000 = 0 := by decide

/-- `TimerClockRule`: a counter at 0, and the counter at its largest value. -/
theorem witness_timer_clock : (0 : Period).toNat = 0 ∧ (2047 : Period).toNat ≠ 0 := by decide

/-- `TickClocksTheTimers`: both parities. -/
theorem witness_parity :
    { State.reset with apu := { State.reset.apu with apuParity := 1 } }.apu.apuParity = 1 ∧
    State.reset.apu.apuParity = 0 := by decide

/-- `TriangleWaveformPeriod`, at the largest period and at 0. -/
theorem witness_triangle_waveform :
    (let s := withUnits Square.powerOn Square.powerOn
      { Triangle.powerOn with timerPeriod := 2047, timerCounter := 2047 }
    s.tri.timerCounter.toNat ≤ s.tri.timerPeriod.toNat) ∧
    State.reset.tri.timerCounter.toNat ≤ State.reset.tri.timerPeriod.toNat := by decide

/-- `SquareWaveformPeriod`, at the largest period. -/
theorem witness_square_waveform :
    (let s := withUnits { Square.powerOn with timerPeriod := 2047, timerCounter := 2047 } Square.powerOn
      Triangle.powerOn
    (s.square .one).sweepEnabled = false ∧
      (s.square .one).timerCounter.toNat ≤ (s.square .one).timerPeriod.toNat) := by decide

/-- `FrameTickRule`, 4-step mode: the tables, a tick short of the offset, and one that reaches it. -/
theorem witness_frame_tick :
    ModeTables playing [7457, 14914, 22371, 29828]
      [⟨true, false⟩, ⟨true, true⟩, ⟨true, false⟩, ⟨true, true⟩] 4 ∧
    [7457, 14914, 22371, 29828][playing.fs.stepIndex.val]? = some 7457 ∧
    [stepQ, stepQH, stepQ, stepQH][playing.fs.stepIndex.val]? = some ⟨true, false⟩ ∧
    playing.fs.cycleCounter + 1 = 7457 ∧ State.reset.fs.cycleCounter + 1 ≠ 7457 :=
  ⟨.inl ⟨rfl, rfl, rfl, rfl⟩, by decide, by decide, by decide, by decide⟩

/-- `FrameTickRule`, 5-step mode: its last step, on the TICK that reaches the offset (V-F6). -/
theorem witness_frame_tick_fiveStep :
    let s := { playing with
      fs := { mode := .fiveStep, stepIndex := 4, cycleCounter := 37284, frameIrqInhibit := false } }
    ModeTables s [7457, 14914, 22371, 29828, 37285]
      [⟨true, false⟩, ⟨true, true⟩, ⟨true, false⟩, ⟨true, true⟩, ⟨true, true⟩] 5 ∧
    [7457, 14914, 22371, 29828, 37285][s.fs.stepIndex.val]? = some 37285 ∧
    [stepQ, stepQH, stepQ, stepQH, stepQH][s.fs.stepIndex.val]? = some ⟨true, true⟩ ∧
    s.fs.cycleCounter + 1 = 37285 :=
  ⟨.inr ⟨rfl, rfl, rfl, rfl⟩, by decide, by decide, by decide⟩

/-- `NoFrameClockBeforeTheFirstOffset`, at the last TICK before the offset. -/
theorem witness_before_first_offset :
    ModeTables State.reset [7457, 14914, 22371, 29828] [stepQ, stepQH, stepQ, stepQH] 4 ∧
    State.reset.fs.stepIndex = 0 ∧ State.reset.fs.cycleCounter = 0 ∧
    [7457, 14914, 22371, 29828][0]? = some 7457 ∧ 7456 < 7457 :=
  ⟨.inl ⟨rfl, rfl, rfl, rfl⟩, by decide, by decide, by decide, by decide⟩

/-- `FrameSequenceFollowsItsTable`, first clause, at the last TICK before the wrap. -/
theorem witness_frame_sequence :
    ModeTables State.reset [7457, 14914, 22371, 29828] [stepQ, stepQH, stepQ, stepQH] 4 ∧
    State.reset.config.WellFormed ∧ State.reset.fs.stepIndex = 0 ∧ State.reset.fs.cycleCounter = 0 ∧
    [7457, 14914, 22371, 29828].getLast? = some 29828 ∧ 29827 < 29828 :=
  ⟨.inl ⟨rfl, rfl, rfl, rfl⟩, by decide, by decide, by decide, by decide, by decide⟩

/-- `FrameSequenceFollowsItsTable`, second clause: the last TICK of each mode's sequence, with the default quarter
frame in the 4-step mode and the smallest one in the 5-step mode. -/
theorem witness_default_schedule :
    (let s := State.reset
    0 < 7457 ∧ s.config.frameStepCycles4 = (configAtQuarter 7457).frameStepCycles4 ∧
      s.config.frameStepCycles5 = (configAtQuarter 7457).frameStepCycles5 ∧
      s.config.frameActions4 = (configAtQuarter 7457).frameActions4 ∧
      s.config.frameActions5 = (configAtQuarter 7457).frameActions5 ∧
      s.fs.stepIndex = 0 ∧ s.fs.cycleCounter = 0 ∧
      29827 + 1 ≤ (match s.fs.mode with | .fourStep => 4 * 7457 | .fiveStep => 5 * 7457)) ∧
    (let s := { State.powerOn (configAtQuarter 1) with
      fs := { mode := .fiveStep, stepIndex := 0, cycleCounter := 0, frameIrqInhibit := false } }
    0 < 1 ∧ s.config.frameStepCycles4 = (configAtQuarter 1).frameStepCycles4 ∧
      s.config.frameStepCycles5 = (configAtQuarter 1).frameStepCycles5 ∧
      s.config.frameActions4 = (configAtQuarter 1).frameActions4 ∧
      s.config.frameActions5 = (configAtQuarter 1).frameActions5 ∧
      s.fs.stepIndex = 0 ∧ s.fs.cycleCounter = 0 ∧
      4 + 1 ≤ (match s.fs.mode with | .fourStep => 4 * 1 | .fiveStep => 5 * 1)) := by decide

/-- `LengthNeverRisesBetweenLoads`, `ConfigurationIsConstant`, `FieldsChangeOnlyByTheirWriters` and
`StubFlagsAreReadByNothing`: a 5-step $4017 write is none of the operations the first statement excludes, and a WR_IGNORED is
in none of the lists of the third. -/
theorem witness_any_operation :
    (∃ t, exec (.wrFrame .fiveStep false) playing = .next t) ∧
    (∃ t, exec (.wrIgnored 0x4009 0) playing = .next t) ∧ (∃ t, step playing = .next t) ∧
    (Instr.wrFrame .fiveStep false).mnemonic ∉ ["WR_SQ1_THI", "WR_SQ2_THI", "WR_TRI_THI"] ∧
    (Instr.wrIgnored 0x4009 0).mnemonic ∉
      ["RD_STATUS", "RD_ZERO", "SAMPLE", "TICK", "WR_STATUS", "WR_FRAME", "WR_SQ1_CTRL", "WR_SQ2_CTRL",
        "WR_SQ1_SWEEP", "WR_SQ2_SWEEP", "WR_TRI_CTRL", "WR_SQ1_TLO", "WR_SQ2_TLO", "WR_TRI_TLO", "WR_SQ1_THI",
        "WR_SQ2_THI", "WR_TRI_THI"] :=
  ⟨⟨_, rfl⟩, ⟨_, rfl⟩, ⟨_, rfl⟩, by decide, by decide⟩

/-- `EnvelopeClockRule`: the three branches, the divider at 0, 1 and 15. -/
theorem witness_envelope_clock :
    { Square.powerOn with envelopeStart := true }.envelopeStart = true ∧
    (Square.powerOn.envelopeStart = false ∧ Square.powerOn.envelopeDivider.toNat = 0) ∧
    { Square.powerOn with envelopeDivider := 1 }.envelopeDivider.toNat > 0 ∧
    { Square.powerOn with envelopeDivider := 15 }.envelopeDivider.toNat > 0 := by decide

/-- `EnvelopeLoopCycle` and `EnvelopeDecaysToZeroAndStays`, at the largest volume. -/
theorem witness_envelope_cycle :
    (let q := { Square.powerOn with
      lengthHalt := true, envelopeDecay := 15, volume := 15, envelopeDivider := 15 }
    q.envelopeStart = false ∧ q.lengthHalt = true ∧ q.envelopeDecay = 15 ∧ q.envelopeDivider = q.volume) ∧
    (let q := { Square.powerOn with envelopeDecay := 15 }
    q.envelopeStart = false ∧ q.lengthHalt = false ∧ q.envelopeDecay = 15 ∧ q.envelopeDivider = q.volume) := by
  decide

/-- `SweepTargetAndMute` and `SweepCornerCases`: each clause, at the periods where it turns. -/
theorem witness_sweep :
    ((swept 0x400 false 0).sweepShift = 0 ∧ (swept 0x400 false 0).sweepNegate = false) ∧
    ((swept 0x3FF false 0).sweepShift = 0 ∧ (swept 0x3FF false 0).sweepNegate = false) ∧
    ((swept 0 true 0).sweepShift = 0 ∧ (swept 0 true 0).sweepNegate = true) ∧
    ((swept 0 true 1).sweepShift ≠ 0 ∧ (swept 0 true 1).sweepNegate = true) ∧
    ((swept 1 true 7).sweepShift ≠ 0 ∧ (swept 1 true 7).sweepNegate = true) := by decide

/-- `SweepDividerCycle`, at the largest period and its last clock. -/
theorem witness_sweep_divider :
    (let q := { Square.powerOn with sweepPeriod := 7, sweepDivider := 7 }
    q.sweepReload = false ∧ q.sweepDivider = q.sweepPeriod ∧ 7 ≤ q.sweepPeriod.toNat) := by decide

/-- `LinearCounterCounts`, with and without the control flag. -/
theorem witness_linear_counter :
    (let t := { Triangle.powerOn with linearReload := true, controlFlag := true }
    t.linearReload = true ∧ t.controlFlag = true) ∧
    (let t := { Triangle.powerOn with linearReload := true, linearReloadValue := 127 }
    t.linearReload = true ∧ t.controlFlag = false) := by decide

/-- `ChannelOutputRules`: a channel with every gate open, at the smallest period that sounds. -/
theorem witness_channel_output :
    (let s := withUnits { loud 1 with timerPeriod := 8, lengthCounter := 1 } Square.powerOn (ringing 1)
    { loud 1 with timerPeriod := 8, lengthCounter := 1 } = s.square .one ∧
      squareOutput s .one = 1 ∧ triangleOutput s = 1) := by decide

/-- `DefaultMixIsZeroExactlyInSilence`: the last pair of each table, and a state with the default tables. -/
theorem witness_default_mix :
    29 + 1 < 31 ∧ 201 + 1 < 203 ∧ playing.config.pulseMix = defaultPulseMix ∧
    playing.config.tndMix = defaultTndMix := ⟨by decide, by decide, rfl, rfl⟩

/-- `EmittedAmplitudeIsTheNextSample`. -/
theorem witness_emitted : ∃ t u, exec .tick playing = .next t ∧ exec .sample t = .next u := ⟨_, _, rfl, rfl⟩

/-- `SampleScheduleFiresEveryPeriod`: without a period, and with the smallest. -/
theorem witness_sample_schedule :
    State.reset.config.samplePeriod = none ∧
    (let s := State.powerOn { defaultConfig with samplePeriod := some 1 }
    s.config.samplePeriod = some 1 ∧ 0 < 1 ∧ s.apu.sampleCounter = 0 ∧ 0 < 1) := ⟨rfl, rfl, by decide, rfl, by decide⟩

/-- `ChannelsDoNotInfluenceEachOther`: three pairs of different states, one for each channel. -/
theorem witness_channels :
    AgreeOutsideSquare1 playing { playing with sq1 := Square.powerOn } ∧
    AgreeOutsideSquare2 playing { playing with sq2 := Square.powerOn } ∧
    AgreeOutsideTriangle playing { playing with tri := Triangle.powerOn } ∧
    (playing.sq1 ≠ Square.powerOn ∧ playing.sq2 ≠ Square.powerOn ∧ playing.tri ≠ Triangle.powerOn) ∧
    ∃ t1 t2, exec .tick playing = .next t1 ∧ exec .tick { playing with sq1 := Square.powerOn } = .next t2 :=
  ⟨⟨rfl, rfl, rfl, rfl, rfl, rfl⟩, ⟨rfl, rfl, rfl, rfl, rfl, rfl⟩, ⟨rfl, rfl, rfl, rfl, rfl, rfl⟩,
    by decide, ⟨_, _, rfl, rfl⟩⟩

/-- `InvariantIsKeptByEveryStep`: a state in the middle of a note meets the invariant, and has a step. -/
theorem witness_invariant : Inv (playing.issue 0x2000000) ∧ ∃ t, step (playing.issue 0x2000000) = .next t :=
  ⟨{ configWf := by decide
     lengthBound := by decide
     disabledIsZero := by decide
     nextStepAhead := ⟨7457, by decide, by decide⟩
     sampleBound := fun _ h => by cases h },
    ⟨_, rfl⟩⟩

/-- `SpecInvariantsHoldInEveryReachableState`: a state a run reaches. -/
theorem witness_reachable :
    Reachable defaultConfig (tickCycle (State.powerOn defaultConfig)) :=
  .step (.issue 0x2000000 .powerOn) rfl

end Sys2Proof.Tests
end

section
/-!
PROOFS. The state at power-on (10_state.md R23, R280) and the constant configuration (R58).
-/

namespace Sys2Proof.Machine

/-- Settles O1: both square channels are `Square.powerOn`, the triangle is `Triangle.powerOn`, and each field of
those, of the frame sequencer and of the global state is a literal. -/
theorem powerOnIsAllZero : Obligations.PowerOnIsAllZero := by
  unfold Obligations.PowerOnIsAllZero
  refine ⟨⟨defaultConfig, rfl⟩, fun c => ⟨fun q hq => ?_, fun t ht => ?_, rfl, rfl, rfl, rfl, rfl, rfl, rfl, rfl⟩⟩
  · obtain rfl : q = Square.powerOn := by simpa using hq
    decide
  · obtain rfl : t = Triangle.powerOn := ht
    decide

/-- Each of the three stages of a TICK keeps the configuration. -/
@[simp] theorem tickCycle_config (s : State) : (tickCycle s).config = s.config :=
  calc (tickCycle s).config
      _ = (frameTick (timerStep s)).config := sampleStep_config _
      _ = (timerStep s).config := frameTick_config _
      _ = s.config := timerStep_config s

/-- R58 for one operation: only a TICK and a 5-step $4017 write run units of the core; every other operation is one
update of named fields, and the configuration is none of them. -/
theorem exec_config {i : Instr} {s t : State} (h : exec i s = .next t) : t.config = s.config := by
  cases i with
  | wrSq1Ctrl | wrSq1Sweep | wrSq1Tlo | wrSq1Thi | wrSq2Ctrl | wrSq2Sweep | wrSq2Tlo | wrSq2Thi =>
    cases h
    exact State.setSquare_config ..
  | wrTriCtrl | wrTriTlo | wrTriThi =>
    cases h
    exact State.setTri_config ..
  | wrStatus | wrIgnored =>
    cases h
    rfl
  | wrFrame mode inhibit =>
    cases h
    cases mode with
    | fourStep => exact State.setFs_config ..
    | fiveStep => exact (quarterFrame_config _).trans (halfFrame_config _)
  | rdStatus | rdZero | sample =>
    cases h
    exact State.respond_config ..
  | tick =>
    cases h
    exact tickCycle_config s

/-- R58 for one step: taking the next issued operation off the queue leaves the configuration alone, and so does
its meaning. -/
theorem step_config {s t : State} (h : step s = .next t) : t.config = s.config := by
  obtain ⟨-, hidle⟩ | ⟨op, rest, -, hexec⟩ := step_cases s
  · cases hidle.symm.trans h
    rfl
  · have hkept : t.config = { s with pending := rest }.config := exec_config (hexec.symm.trans h)
    exact hkept

/-- Settles O54, by the cases of the operation and of the step. -/
theorem configurationIsConstant : Obligations.ConfigurationIsConstant := by
  unfold Obligations.ConfigurationIsConstant
  exact ⟨fun _ _ _ => exec_config, fun _ _ => step_config⟩

end Sys2Proof.Machine
end

section
/-!
PROOFS. The register formats of a WRITE, bit by bit (30_encoding.md R84, R86, R87, R88, R91): a field of the data
byte is a quotient and remainder of its value, and the decoder cuts each operand out as such a field.
-/

namespace Sys2Proof

/-- Bit `i` of a word, by arithmetic. -/
theorem getLsbD_eq_div_mod {w : Nat} (x : BitVec w) (i : Nat) :
    x.getLsbD i = decide (x.toNat / 2 ^ i % 2 = 1) :=
  calc x.getLsbD i
      _ = x.toNat.testBit i := rfl
      _ = decide (x.toNat / 2 ^ i % 2 = 1) := Nat.testBit_eq_decide_div_mod_eq

/-- The `len` bits of a word from bit `start` up, by arithmetic. -/
theorem toNat_extractLsb'_eq_div_mod {w : Nat} (x : BitVec w) (start len : Nat) :
    (x.extractLsb' start len).toNat = x.toNat / 2 ^ start % 2 ^ len := by
  rw [BitVec.extractLsb'_toNat, Nat.shiftRight_eq_div_pow]

/-- The field that ends at a word's top bit needs no remainder. -/
theorem toNat_extractLsb'_top {w : Nat} (x : BitVec w) (start len : Nat) (h : start + len = w) :
    (x.extractLsb' start len).toNat = x.toNat / 2 ^ start := by
  have hlt : x.toNat / 2 ^ start < 2 ^ len :=
    Nat.div_lt_of_lt_mul (by rw [← Nat.pow_add, h]; exact x.isLt)
  rw [toNat_extractLsb'_eq_div_mod, Nat.mod_eq_of_lt hlt]

/-- The field that starts at bit 0 needs no quotient. -/
theorem toNat_extractLsb'_zero {w : Nat} (x : BitVec w) (len : Nat) :
    (x.extractLsb' 0 len).toNat = x.toNat % 2 ^ len := by
  rw [toNat_extractLsb'_eq_div_mod, Nat.pow_zero, Nat.div_one]

/-- Bit 7 of a byte needs no remainder. -/
theorem Byte.getLsbD_seven (d : Byte) : d.getLsbD 7 = decide (d.toNat / 128 = 1) := by
  have hmod : d.toNat / 128 % 2 = d.toNat / 128 := Nat.mod_eq_of_lt (by have := d.isLt; omega)
  rw [getLsbD_eq_div_mod, show 2 ^ 7 = 128 from rfl, hmod]

/-- R91: the mode bit selects the 5-step mode exactly when it is 1. -/
@[simp] theorem modeOfBit_eq_fiveStep (b : Bool) : modeOfBit b = .fiveStep ↔ b = true := by
  cases b with
  | false => decide
  | true => decide

/-- R84 at its two addresses. -/
theorem decode_writeOp_sqCtrl (d : Byte) :
    decode (writeOp 0x4000 d) =
      .wrSq1Ctrl (d.extractLsb' 6 2) (d.getLsbD 5) (d.getLsbD 4) (d.extractLsb' 0 4) ∧
    decode (writeOp 0x4004 d) =
      .wrSq2Ctrl (d.extractLsb' 6 2) (d.getLsbD 5) (d.getLsbD 4) (d.extractLsb' 0 4) :=
  ⟨decode_writeOp _ d, decode_writeOp _ d⟩

/-- R86 at its three addresses. -/
theorem decode_writeOp_tlo (d : Byte) :
    decode (writeOp 0x4002 d) = .wrSq1Tlo d ∧ decode (writeOp 0x4006 d) = .wrSq2Tlo d ∧
      decode (writeOp 0x400A d) = .wrTriTlo d :=
  ⟨decode_writeOp _ d, decode_writeOp _ d, decode_writeOp _ d⟩

/-- R87 at its three addresses. -/
theorem decode_writeOp_thi (d : Byte) :
    decode (writeOp 0x4003 d) = .wrSq1Thi (d.extractLsb' 3 5) (d.extractLsb' 0 3) ∧
    decode (writeOp 0x4007 d) = .wrSq2Thi (d.extractLsb' 3 5) (d.extractLsb' 0 3) ∧
    decode (writeOp 0x400B d) = .wrTriThi (d.extractLsb' 3 5) (d.extractLsb' 0 3) :=
  ⟨decode_writeOp _ d, decode_writeOp _ d, decode_writeOp _ d⟩

/-- R88 at its address. -/
theorem decode_writeOp_triCtrl (d : Byte) :
    decode (writeOp 0x4008 d) = .wrTriCtrl (d.getLsbD 7) (d.extractLsb' 0 7) :=
  decode_writeOp _ d

/-- R91 at its address. -/
theorem decode_writeOp_frame (d : Byte) :
    decode (writeOp 0x4017 d) = .wrFrame (modeOfBit (d.getLsbD 7)) (d.getLsbD 6) :=
  decode_writeOp _ d

/-- Settles O8: each format's operands are the fields the decoder cuts out of the data byte, and a field is a
quotient and remainder of the byte's value. -/
theorem writeFormatsDecode : Obligations.WriteFormatsDecode := by
  unfold Obligations.WriteFormatsDecode
  intro d
  obtain ⟨hsq1Ctrl, hsq2Ctrl⟩ := decode_writeOp_sqCtrl d
  obtain ⟨hsq1Thi, hsq2Thi, htriThi⟩ := decode_writeOp_thi d
  refine ⟨?sqctrl, decode_writeOp_tlo d, ?thi, ?trictrl, ?frame⟩
  case sqctrl =>
    exact ⟨_, _, _, _, hsq1Ctrl, hsq2Ctrl, toNat_extractLsb'_top d 6 2 rfl, getLsbD_eq_div_mod d 5,
      getLsbD_eq_div_mod d 4, toNat_extractLsb'_zero d 4⟩
  case thi =>
    exact ⟨_, _, hsq1Thi, hsq2Thi, htriThi, toNat_extractLsb'_top d 3 5 rfl, toNat_extractLsb'_zero d 3⟩
  case trictrl =>
    exact ⟨_, _, decode_writeOp_triCtrl d, Byte.getLsbD_seven d, toNat_extractLsb'_zero d 7⟩
  case frame =>
    have hmode : modeOfBit (d.getLsbD 7) = .fiveStep ↔ d.toNat / 128 = 1 := by
      rw [modeOfBit_eq_fiveStep, Byte.getLsbD_seven, decide_eq_true_iff]
    exact ⟨_, _, decode_writeOp_frame d, hmode, getLsbD_eq_div_mod d 6⟩

end Sys2Proof
end

section
/-!
PROOFS. The addresses the register decoder leaves to the catch-all rows (30_encoding.md R82, R83).
-/

namespace Sys2Proof

/-- An address that no full-mask WRITE row names falls through every row to WR_IGNORED. -/
theorem decodeWrite_of_notMem {a : Addr} (h : a ∉ decodedWriteAddrs) (d : Byte) :
    decodeWrite a d = .wrIgnored a d := by
  simp only [decodedWriteAddrs, List.mem_cons, List.not_mem_nil, or_false, not_or] at h
  simp only [decodeWrite, h, if_false]

/-- A READ at any address but $4015 is RD_ZERO. -/
theorem decodeRead_of_ne {a : Addr} (h : a ≠ 0x4015) : decodeRead a = .rdZero a := if_neg h

end Sys2Proof
end

section
/-!
PROOFS. The register writes (40_register_write.md): what the writes of each channel change (R100, R102, R103, R105,
R107, R109, R111), the addresses that are not assigned (R110, R141), and that a WRITE takes no time (R119).
-/

namespace Sys2Proof.Machine

/-! ## A WRITE takes no time (R119) -/

/-- Nothing that counts time differs between the two states, the frame sequencer aside: the three timers, the parity of
the TICK, the sample counter, and the values handed back. -/
structure TimeKept (s t : State) : Prop where
  sq1 : t.sq1.timerCounter = s.sq1.timerCounter
  sq2 : t.sq2.timerCounter = s.sq2.timerCounter
  tri : t.tri.timerCounter = s.tri.timerCounter
  apuParity : t.apu.apuParity = s.apu.apuParity
  sampleCounter : t.apu.sampleCounter = s.apu.sampleCounter
  outputs : t.outputs = s.outputs

theorem TimeKept.refl (s : State) : TimeKept s s := ⟨rfl, rfl, rfl, rfl, rfl, rfl⟩

theorem TimeKept.trans {s t u : State} (h : TimeKept s t) (g : TimeKept t u) : TimeKept s u where
  sq1 := g.sq1.trans h.sq1
  sq2 := g.sq2.trans h.sq2
  tri := g.tri.trans h.tri
  apuParity := g.apuParity.trans h.apuParity
  sampleCounter := g.sampleCounter.trans h.sampleCounter
  outputs := g.outputs.trans h.outputs

theorem setSquare_timeKept {s : State} {n : SquareId} {q : Square}
    (h : q.timerCounter = (s.square n).timerCounter) : TimeKept s (s.setSquare n q) := by
  cases n with
  | one => exact ⟨h, rfl, rfl, rfl, rfl, rfl⟩
  | two => exact ⟨rfl, h, rfl, rfl, rfl, rfl⟩

theorem setTri_timeKept {s : State} {u : Triangle} (h : u.timerCounter = s.tri.timerCounter) :
    TimeKept s (s.setTri u) := ⟨rfl, rfl, h, rfl, rfl, rfl⟩

theorem setFs_timeKept (s : State) (f : FrameSequencer) : TimeKept s (s.setFs f) :=
  ⟨rfl, rfl, rfl, rfl, rfl, rfl⟩

/-- The clocks of a frame step reach no timer. -/
theorem sendClocks_timeKept (a : FrameAction) (s : State) : TimeKept s (sendClocks a s) := by
  obtain ⟨hsq1, hsq2, htri⟩ := sendClocks_kept a s
  exact ⟨hsq1.timerCounter, hsq2.timerCounter, htri.timerCounter, congrArg Global.apuParity (sendClocks_apu a s),
    congrArg Global.sampleCounter (sendClocks_apu a s), sendClocks_outputs a s⟩

/-- The immediate clock of a 5-step write is the clocks of a step that sends both (R224, R225). -/
theorem immediateFrameClock_eq_sendClocks (s : State) : immediateFrameClock s = sendClocks stepQH s := rfl

/-- A $4017 write takes no time, and the sequencer after it is the restarted one in either mode: the immediate clock
of a 5-step write does not reach it. -/
theorem exec_wrFrame_timeKept {mode : FrameMode} {inhibit : Bool} {s t : State}
    (h : exec (.wrFrame mode inhibit) s = .next t) :
    TimeKept s t ∧
      t.fs = { mode := mode, stepIndex := 0, cycleCounter := 0, frameIrqInhibit := inhibit } := by
  cases h
  cases mode with
  | fourStep => exact ⟨setFs_timeKept s _, State.setFs_fs s _⟩
  | fiveStep =>
    simp only [if_true, immediateFrameClock_eq_sendClocks]
    exact ⟨(setFs_timeKept s _).trans (sendClocks_timeKept stepQH _), sendClocks_fs stepQH _⟩

/-- R119 for one operation: a WRITE takes no time, and only one of $4017 touches the frame sequencer, which it
restarts. -/
theorem exec_write_timeKept {i : Instr} {s t : State} (hw : isWrite i = true) (h : exec i s = .next t) :
    TimeKept s t ∧ (t.fs = s.fs ∨ i.mnemonic = "WR_FRAME" ∧ t.fs.cycleCounter = 0) := by
  cases i with
  | wrSq1Ctrl | wrSq1Sweep | wrSq1Tlo | wrSq1Thi | wrSq2Ctrl | wrSq2Sweep | wrSq2Tlo | wrSq2Thi =>
    cases h
    exact ⟨setSquare_timeKept rfl, .inl (State.setSquare_fs ..)⟩
  | wrTriCtrl | wrTriTlo | wrTriThi =>
    cases h
    exact ⟨setTri_timeKept rfl, .inl (State.setTri_fs ..)⟩
  | wrStatus =>
    cases h
    exact ⟨⟨rfl, rfl, rfl, rfl, rfl, rfl⟩, .inl rfl⟩
  | wrFrame mode inhibit =>
    obtain ⟨hkept, hfs⟩ := exec_wrFrame_timeKept h
    exact ⟨hkept, .inr ⟨rfl, congrArg FrameSequencer.cycleCounter hfs⟩⟩
  | wrIgnored =>
    cases h
    exact ⟨.refl s, .inl rfl⟩
  | rdStatus | rdZero | tick | sample => cases hw

/-- Settles O22, by the cases of the operation (`exec_write_timeKept`). -/
theorem writesTakeNoTime : Obligations.WritesTakeNoTime := by
  unfold Obligations.WritesTakeNoTime
  intro i s t hw h
  obtain ⟨hkept, hfs⟩ := exec_write_timeKept hw h
  refine ⟨hkept.sq1, hkept.sq2, hkept.tri, hkept.apuParity, hkept.sampleCounter, hkept.outputs, ?_⟩
  exact hfs.imp_left fun e => ⟨congrArg FrameSequencer.cycleCounter e, congrArg FrameSequencer.stepIndex e⟩

/-! ## The writes of one channel (R100, R102, R103, R105, R107, R109, R111) -/

/-- Settles O13: each control write is `writeSquareCtrl` on its own channel, which names the four fields. -/
theorem squareControlWrites : Obligations.SquareControlWrites := by
  unfold Obligations.SquareControlWrites
  exact fun _ _ _ _ _ => ⟨rfl, rfl⟩

/-- Settles O15: the new period of each channel is `periodWithLow` of the old one. -/
theorem timerLowWrites : Obligations.TimerLowWrites := by
  unfold Obligations.TimerLowWrites
  exact fun _ low => ⟨⟨_, periodWithLow_toNat _ low, rfl⟩, ⟨_, periodWithLow_toNat _ low, rfl⟩,
    ⟨_, periodWithLow_toNat _ low, rfl⟩⟩

/-- R102 as a lookup in the list of the table's entries. -/
theorem some_lengthLoad (c : Config) (enabled : Bool) (index : BitVec 5) (counter : BitVec 8) :
    some (lengthLoad c enabled index counter) =
      if enabled then c.lengthTable.entries[index.toNat]? else some counter := by
  cases enabled with
  | false => rfl
  | true => exact (Table.getElem?_eq c.lengthTable index.toNat index.isLt).symm

/-- Settles O17: the length counter after each high-byte write is `lengthLoad` of the one before. -/
theorem highByteWriteLoadsLengthOnlyIfEnabled : Obligations.HighByteWriteLoadsLengthOnlyIfEnabled := by
  unfold Obligations.HighByteWriteLoadsLengthOnlyIfEnabled
  exact fun _ _ _ => ⟨_, _, _, rfl, rfl, rfl, some_lengthLoad .., some_lengthLoad .., some_lengthLoad ..⟩

/-- Settles O18: the write is one update of the triangle, which names the two fields. -/
theorem triangleControlWrite : Obligations.TriangleControlWrite := by
  unfold Obligations.TriangleControlWrite
  exact fun _ _ _ => rfl

/-! ## Addresses that are not assigned (R110, R141) -/

/-- Settles O24: the decoder leaves such an address to its catch-all rows, whose meanings change nothing, or hand back
a 0 and change nothing else. -/
theorem unassignedAddressesAreIgnored : Obligations.UnassignedAddressesAreIgnored := by
  unfold Obligations.UnassignedAddressesAreIgnored
  refine ⟨fun a d h => ?write, fun a h => ?read, fun s a d => ⟨exec_wrIgnored a d s, exec_rdZero a s⟩⟩
  case write => rw [decode_writeOp, decodeWrite_of_notMem h]
  case read => rw [decode_readOp, decodeRead_of_ne h]

end Sys2Proof.Machine
end

section
/-!
PROOFS. TICK and the channel timers (42_tick_and_timers.md): the order of the stages (R150) and one clock of a timer
in numbers (R153).
-/

namespace Sys2Proof.Machine

/-- Settles O27: the meaning of TICK is `tickCycle` (`exec_tick`), which composes the three stages in this order. -/
theorem tickRunsItsThreeStages : Obligations.TickRunsItsThreeStages := by
  unfold Obligations.TickRunsItsThreeStages
  exact exec_tick

/-! ## One clock of a timer (R153) -/

/-- The position of a sequence of 2 ^ `w` steps advances modulo the sequence length, the one-step sequence included. -/
theorem position_succ_toNat {w : Nat} (position : BitVec w) :
    (position + 1#w).toNat = (position.toNat + 1) % 2 ^ w := by
  rw [BitVec.toNat_add, BitVec.toNat_ofNat, Nat.add_mod_mod]

/-- Settles O28, by whether the counter is 0 (`timerClock_reload`) or not (`timerClock_count`). -/
theorem timerClockRule : Obligations.TimerClockRule := by
  unfold Obligations.TimerClockRule
  refine fun w period counter position => ⟨fun hzero => ?reload, fun hpos => ?count⟩
  case reload =>
    obtain rfl := (eq_zero_iff_toNat counter).mpr hzero
    rw [timerClock_reload]
    exact ⟨rfl, position_succ_toNat position⟩
  case count =>
    rw [timerClock_count (mt (eq_zero_iff_toNat counter).mp hpos)]
    exact ⟨toNat_sub_one counter (Nat.pos_of_ne_zero hpos), rfl⟩

end Sys2Proof.Machine
end

section
/-!
PROOFS. The frame sequencer (44_frame_sequencer.md): the frame tick over the step tables of the mode (R220), what the
half-frame and quarter-frame clocks reach (R222, R223), and the immediate clock of a 5-step $4017 write (R225).
-/

namespace Sys2Proof.Machine

/-! ## The step a frame tick looks at (R221) -/

/-- The tables that `ModeTables` names are those the model's sequencer looks its steps up in. -/
theorem modeTables_eq {s : State} {offsets : List Nat} {actions : List FrameAction} {steps : Nat}
    (h : ModeTables s offsets actions steps) :
    offsets = stepOffsets s.config s.fs.mode ∧ actions = stepActions s.config s.fs.mode ∧
      steps = stepCount s.fs.mode := by
  obtain ⟨hmode, rfl, rfl, rfl⟩ | ⟨hmode, rfl, rfl, rfl⟩ := h
  · rw [hmode]
    exact ⟨rfl, rfl, rfl⟩
  · rw [hmode]
    exact ⟨rfl, rfl, rfl⟩

/-- An index at which a mode has a step lies below the mode's step count. -/
theorem lt_stepCount_of_frameStepAt {c : Config} {m : FrameMode} {index : Fin 5} {offset : Nat} {action : FrameAction}
    (h : frameStepAt c m index = some (offset, action)) : index.val < stepCount m := by
  obtain ⟨hlt, -⟩ := List.getElem?_eq_some_iff.mp (frameStepAt_eq_some.mp h).1
  rwa [stepOffsets_length] at hlt

/-! ## The step after this one (R220) -/

/-- After a step of the mode the index moves on modulo the step count. -/
theorem advanceStep_stepIndex_val {f : FrameSequencer} (h : f.stepIndex.val < stepCount f.mode) :
    (advanceStep f).stepIndex.val = (f.stepIndex.val + 1) % stepCount f.mode := by
  unfold advanceStep
  split
  · next hlast => rw [hlast, Nat.mod_self, Fin.val_zero]
  · next hnext =>
    have hlt : f.stepIndex.val + 1 < stepCount f.mode := by omega
    have hfive : f.stepIndex.val + 1 < 5 := hlt.trans_le (stepCount_le_five f.mode)
    rw [Nat.mod_eq_of_lt hlt, Fin.val_add, Fin.val_one, Nat.mod_eq_of_lt hfive]

/-- Taking a step writes the index and the counter only, and restarts the counter after the last step alone. -/
theorem advanceStep_eq (f : FrameSequencer) :
    advanceStep f =
      { f with
        stepIndex := (advanceStep f).stepIndex
        cycleCounter := if f.stepIndex.val + 1 = stepCount f.mode then 0 else f.cycleCounter } := by
  unfold advanceStep
  split
  · rfl
  · rfl

/-! ## The frame tick (R220) -/

/-- The clocks of a frame step do not see the sequencer. -/
theorem sendClocks_setFs (a : FrameAction) (s : State) (f : FrameSequencer) :
    sendClocks a (s.setFs f) = (sendClocks a s).setFs f := by
  rcases a with ⟨_ | _, _ | _⟩ <;> rfl

theorem frameTick_of_ne_offset {s : State} {offset : Nat} {action : FrameAction}
    (h : frameStepAt s.config s.fs.mode s.fs.stepIndex = some (offset, action))
    (hne : s.fs.cycleCounter + 1 ≠ offset) : frameTick s = countCycle s := by
  simp only [frameTick, h, if_neg hne]

theorem frameTick_of_eq_offset {s : State} {offset : Nat} {action : FrameAction}
    (h : frameStepAt s.config s.fs.mode s.fs.stepIndex = some (offset, action))
    (heq : s.fs.cycleCounter + 1 = offset) :
    frameTick s = (sendClocks action s).setFs (advanceStep { s.fs with cycleCounter := offset }) := by
  subst heq
  calc frameTick s
      _ = (sendClocks action (countCycle s)).setFs (advanceStep (sendClocks action (countCycle s)).fs) := by
        simp only [frameTick, h, if_true]
      _ = (sendClocks action s).setFs (advanceStep { s.fs with cycleCounter := s.fs.cycleCounter + 1 }) := by
        rw [sendClocks_fs, countCycle, sendClocks_setFs]
        rfl

/-- Settles O33, by whether the tick reaches the offset of the next step (`frameTick_of_eq_offset`) or not
(`frameTick_of_ne_offset`). -/
theorem frameTickRule : Obligations.FrameTickRule := by
  unfold Obligations.FrameTickRule
  intro s offsets actions steps offset action htables hoffset haction
  obtain ⟨rfl, rfl, rfl⟩ := modeTables_eq htables
  have hstep := frameStepAt_eq_some.mpr ⟨hoffset, haction⟩
  refine ⟨frameTick_of_ne_offset hstep, fun hdue => ?due⟩
  case due =>
    have hindex := advanceStep_stepIndex_val (f := { s.fs with cycleCounter := offset })
      (lt_stepCount_of_frameStepAt hstep)
    refine ⟨_, sendClocks action s, _, rfl, rfl, hindex, ?_⟩
    rw [frameTick_of_eq_offset hstep hdue, advanceStep_eq]
    rfl

/-! ## The half-frame and quarter-frame clocks (R222, R223) -/

/-- Settles O34: each clock is one update of the three channels. -/
theorem frameClocksReachTheirUnits : Obligations.FrameClocksReachTheirUnits := by
  unfold Obligations.FrameClocksReachTheirUnits
  exact fun _ => ⟨rfl, rfl⟩

/-! ## The immediate clock of a 5-step write (R225) -/

/-- A 5-step $4017 write restarts the sequencer and then sends the immediate clock. -/
theorem exec_wrFrame_fiveStep (inhibit : Bool) (s : State) :
    exec (.wrFrame .fiveStep inhibit) s =
      .next (immediateFrameClock (s.setFs
        { mode := .fiveStep, stepIndex := 0, cycleCounter := 0, frameIrqInhibit := inhibit })) := rfl

/-- Settles O21: the state that the immediate clock sees (`exec_wrFrame_fiveStep`) differs from the one at the write in
the sequencer only. -/
theorem fiveStepWriteClocksEveryUnitOnce : Obligations.FiveStepWriteClocksEveryUnitOnce := by
  unfold Obligations.FiveStepWriteClocksEveryUnitOnce
  exact fun s inhibit => ⟨_, exec_wrFrame_fiveStep inhibit s, rfl, State.setFs_sq1 s _, State.setFs_sq2 s _,
    State.setFs_tri s _⟩

end Sys2Proof.Machine
end

section
/-!
PROOFS. The mixer (45_mixer.md): what a SAMPLE hands back (R244).
-/

namespace Sys2Proof.Machine

/-- Settles O51: a SAMPLE is one answer to the host (`exec_sample`), which the outputs alone record. -/
theorem sampleReturnsTheMix : Obligations.SampleReturnsTheMix := by
  unfold Obligations.SampleReturnsTheMix
  exact exec_sample

end Sys2Proof.Machine
end

section
/-!
PROOFS. Encoding and decoding are inverse (30_encoding.md R80 to R91): a data byte is packed and cut apart bit by bit,
and an operation word is its kind, its address and its data.
-/

namespace Sys2Proof

/-! ## The data byte of each format, packed and cut apart (R84, R85, R87, R88, R89, R91) -/

@[simp] theorem getElem_bitAt (b : Bool) (k i : Nat) (hi : i < 8) : (bitAt b k)[i] = (decide (i = k) && b) := by
  by_cases hlt : i < k
  · simp [bitAt, hlt, show i ≠ k by omega]
  · simp [bitAt, hlt, show i - k = 0 ↔ i = k by omega]

theorem packSqCtrl_fields (duty : BitVec 2) (halt constant : Bool) (volume : BitVec 4) :
    (packSqCtrl duty halt constant volume).extractLsb' 6 2 = duty ∧
    (packSqCtrl duty halt constant volume).getLsbD 5 = halt ∧
    (packSqCtrl duty halt constant volume).getLsbD 4 = constant ∧
    (packSqCtrl duty halt constant volume).extractLsb' 0 4 = volume := by
  refine ⟨?_, by simp [packSqCtrl], by simp [packSqCtrl], ?_⟩
  · ext i hi
    interval_cases i <;> simp [packSqCtrl]
  · ext i hi
    interval_cases i <;> simp [packSqCtrl]

theorem packSqSweep_fields (enabled : Bool) (period : BitVec 3) (negate : Bool) (shift : BitVec 3) :
    (packSqSweep enabled period negate shift).getLsbD 7 = enabled ∧
    (packSqSweep enabled period negate shift).extractLsb' 4 3 = period ∧
    (packSqSweep enabled period negate shift).getLsbD 3 = negate ∧
    (packSqSweep enabled period negate shift).extractLsb' 0 3 = shift := by
  refine ⟨by simp [packSqSweep], ?_, by simp [packSqSweep], ?_⟩
  · ext i hi
    interval_cases i <;> simp [packSqSweep]
  · ext i hi
    interval_cases i <;> simp [packSqSweep]

theorem packThi_fields (index : BitVec 5) (high : BitVec 3) :
    (packThi index high).extractLsb' 3 5 = index ∧ (packThi index high).extractLsb' 0 3 = high := by
  refine ⟨?_, ?_⟩
  · ext i hi
    interval_cases i <;> simp [packThi]
  · ext i hi
    interval_cases i <;> simp [packThi]

theorem packTriCtrl_fields (control : Bool) (reload : BitVec 7) :
    (packTriCtrl control reload).getLsbD 7 = control ∧ (packTriCtrl control reload).extractLsb' 0 7 = reload := by
  refine ⟨by simp [packTriCtrl], ?_⟩
  ext i hi
  interval_cases i <;> simp [packTriCtrl]

theorem packStatus_fields (square1 square2 triangle noise dmc : Bool) :
    (packStatus square1 square2 triangle noise dmc).getLsbD 0 = square1 ∧
    (packStatus square1 square2 triangle noise dmc).getLsbD 1 = square2 ∧
    (packStatus square1 square2 triangle noise dmc).getLsbD 2 = triangle ∧
    (packStatus square1 square2 triangle noise dmc).getLsbD 3 = noise ∧
    (packStatus square1 square2 triangle noise dmc).getLsbD 4 = dmc := by
  refine ⟨?_, ?_, ?_, ?_, ?_⟩ <;> simp [packStatus]

theorem packFrame_fields (mode : FrameMode) (inhibit : Bool) :
    modeOfBit ((packFrame mode inhibit).getLsbD 7) = mode ∧ (packFrame mode inhibit).getLsbD 6 = inhibit := by
  refine ⟨?_, ?_⟩ <;> simp [packFrame]

theorem packSqCtrl_of_fields (d : Byte) :
    packSqCtrl (d.extractLsb' 6 2) (d.getLsbD 5) (d.getLsbD 4) (d.extractLsb' 0 4) = d := by
  ext i hi
  interval_cases i <;> simp [packSqCtrl]

theorem packSqSweep_of_fields (d : Byte) :
    packSqSweep (d.getLsbD 7) (d.extractLsb' 4 3) (d.getLsbD 3) (d.extractLsb' 0 3) = d := by
  ext i hi
  interval_cases i <;> simp [packSqSweep]

theorem packThi_of_fields (d : Byte) : packThi (d.extractLsb' 3 5) (d.extractLsb' 0 3) = d := by
  ext i hi
  interval_cases i <;> simp [packThi]

theorem packTriCtrl_of_fields (d : Byte) : packTriCtrl (d.getLsbD 7) (d.extractLsb' 0 7) = d := by
  ext i hi
  interval_cases i <;> simp [packTriCtrl]

/-- R89: bits 7 to 5 of a STATUSW byte are ignored. -/
theorem packStatus_of_fields (d : Byte) :
    packStatus (d.getLsbD 0) (d.getLsbD 1) (d.getLsbD 2) (d.getLsbD 3) (d.getLsbD 4) = d &&& 0x1F := by
  ext i hi
  interval_cases i <;> simp [packStatus]

/-- R91: bits 5 to 0 of a FRAME byte are ignored. -/
theorem packFrame_of_fields (d : Byte) : packFrame (modeOfBit (d.getLsbD 7)) (d.getLsbD 6) = d &&& 0xC0 := by
  ext i hi
  interval_cases i <;> simp [packFrame]

/-! ## The operands of each register decode from its packed byte -/

/-- R85 at its two addresses. -/
theorem decode_writeOp_sqSweep (d : Byte) :
    decode (writeOp 0x4001 d) =
      .wrSq1Sweep (d.getLsbD 7) (d.extractLsb' 4 3) (d.getLsbD 3) (d.extractLsb' 0 3) ∧
    decode (writeOp 0x4005 d) =
      .wrSq2Sweep (d.getLsbD 7) (d.extractLsb' 4 3) (d.getLsbD 3) (d.extractLsb' 0 3) :=
  ⟨decode_writeOp _ d, decode_writeOp _ d⟩

/-- R89 at its address. -/
theorem decode_writeOp_status (d : Byte) :
    decode (writeOp 0x4015 d) =
      .wrStatus (d.getLsbD 0) (d.getLsbD 1) (d.getLsbD 2) (d.getLsbD 3) (d.getLsbD 4) :=
  decode_writeOp _ d

/-- Settles O10, by the cases of the operation: the decoder cuts the packed byte apart into the operands it was packed
from, and an address that no other row names falls to the catch-all row. -/
theorem decodeOfEncodeIsTheOperation : Obligations.DecodeOfEncodeIsTheOperation := by
  unfold Obligations.DecodeOfEncodeIsTheOperation
  intro i hwf
  cases i with
  | wrSq1Ctrl duty halt constant volume =>
    obtain ⟨hduty, hhalt, hconstant, hvolume⟩ := packSqCtrl_fields duty halt constant volume
    rw [encode, (decode_writeOp_sqCtrl _).1, hduty, hhalt, hconstant, hvolume]
  | wrSq2Ctrl duty halt constant volume =>
    obtain ⟨hduty, hhalt, hconstant, hvolume⟩ := packSqCtrl_fields duty halt constant volume
    rw [encode, (decode_writeOp_sqCtrl _).2, hduty, hhalt, hconstant, hvolume]
  | wrSq1Sweep enabled period negate shift =>
    obtain ⟨henabled, hperiod, hnegate, hshift⟩ := packSqSweep_fields enabled period negate shift
    rw [encode, (decode_writeOp_sqSweep _).1, henabled, hperiod, hnegate, hshift]
  | wrSq2Sweep enabled period negate shift =>
    obtain ⟨henabled, hperiod, hnegate, hshift⟩ := packSqSweep_fields enabled period negate shift
    rw [encode, (decode_writeOp_sqSweep _).2, henabled, hperiod, hnegate, hshift]
  | wrSq1Tlo low | wrSq2Tlo low | wrTriTlo low => exact decode_writeOp _ low
  | wrSq1Thi index high =>
    obtain ⟨hindex, hhigh⟩ := packThi_fields index high
    obtain ⟨hdecode, -, -⟩ := decode_writeOp_thi (packThi index high)
    rw [encode, hdecode, hindex, hhigh]
  | wrSq2Thi index high =>
    obtain ⟨hindex, hhigh⟩ := packThi_fields index high
    obtain ⟨-, hdecode, -⟩ := decode_writeOp_thi (packThi index high)
    rw [encode, hdecode, hindex, hhigh]
  | wrTriThi index high =>
    obtain ⟨hindex, hhigh⟩ := packThi_fields index high
    obtain ⟨-, -, hdecode⟩ := decode_writeOp_thi (packThi index high)
    rw [encode, hdecode, hindex, hhigh]
  | wrTriCtrl control reload =>
    obtain ⟨hcontrol, hreload⟩ := packTriCtrl_fields control reload
    rw [encode, decode_writeOp_triCtrl, hcontrol, hreload]
  | wrStatus square1 square2 triangle noise dmc =>
    obtain ⟨hsq1, hsq2, htri, hnoise, hdmc⟩ := packStatus_fields square1 square2 triangle noise dmc
    rw [encode, decode_writeOp_status, hsq1, hsq2, htri, hnoise, hdmc]
  | wrFrame mode inhibit =>
    obtain ⟨hmode, hinhibit⟩ := packFrame_fields mode inhibit
    rw [encode, decode_writeOp_frame, hmode, hinhibit]
  | wrIgnored a d =>
    have ha : a ∉ decodedWriteAddrs := by simpa [Instr.wellFormed] using hwf
    rw [encode, decode_writeOp, decodeWrite_of_notMem ha]
  | rdZero a =>
    have ha : a ≠ 0x4015 := by simpa [Instr.wellFormed] using hwf
    rw [encode, decode_readOp, decodeRead_of_ne ha]
  | rdStatus => exact decode_readOp _
  | tick => exact decode_tickOp
  | sample => exact decode_sampleOp

end Sys2Proof
end

section
/-!
PROOFS. Every operation word is a well-formed operation, and its encoding is the word without its ignored bits (R81).
-/

namespace Sys2Proof
open Sys2Proof.Machine

/-! ## A word is its kind, its address and its data (R80) -/

theorem word_eq_iff {x y : OpWord} :
    x = y ↔ kindField x = kindField y ∧ addrField x = addrField y ∧ dataField x = dataField y := by
  refine ⟨by rintro rfl; exact ⟨rfl, rfl, rfl⟩, fun ⟨hkind, haddr, hdata⟩ => ?_⟩
  rw [← fields_or x, ← fields_or y, hkind, haddr, hdata]

@[simp] theorem kindField_and (x y : OpWord) : kindField (x &&& y) = kindField x &&& kindField y :=
  BitVec.extractLsb'_and

@[simp] theorem addrField_and (x y : OpWord) : addrField (x &&& y) = addrField x &&& addrField y :=
  BitVec.extractLsb'_and

@[simp] theorem dataField_and (x y : OpWord) : dataField (x &&& y) = dataField x &&& dataField y :=
  BitVec.extractLsb'_and

@[simp] theorem dataField_readOp (a : Addr) : dataField (readOp a) = 0#8 := by
  ext i hi
  rw [dataField_bit, readOp]
  simp [show i < 8 by omega]

theorem kindField_cases (op : OpWord) :
    kindField op = 0#2 ∨ kindField op = 1#2 ∨ kindField op = 2#2 ∨ kindField op = 3#2 := by
  have hall : ∀ k : BitVec 2, k = 0#2 ∨ k = 1#2 ∨ k = 2#2 ∨ k = 3#2 := by decide
  exact hall _

theorem eq_writeOp {op : OpWord} (h : kindField op = 1#2) : op = writeOp (addrField op) (dataField op) := by
  simp [word_eq_iff, h]

/-- A READ ignores its data field (R81). -/
theorem and_eq_readOp {op : OpWord} (h : kindField op = 0#2) : op &&& 0x3FFFF00 = readOp (addrField op) := by
  have haddr : addrField op &&& 0xFFFF#16 = addrField op := BitVec.and_allOnes
  have haddrMask : addrField 0x3FFFF00#26 = 0xFFFF#16 := by decide
  have hdataMask : dataField 0x3FFFF00#26 = 0#8 := by decide
  simp [word_eq_iff, h, haddr, haddrMask, hdataMask]

/-- A TICK and a SAMPLE ignore everything but their kind (R81). -/
theorem and_kindMask {op w : OpWord} (hkind : kindField op = kindField w) (haddr : addrField w = 0#16)
    (hdata : dataField w = 0#8) : op &&& 0x3000000#26 = w := by
  have hkindMask : kindField 0x3000000#26 = 3#2 := by decide
  have haddrMask : addrField 0x3000000#26 = 0#16 := by decide
  have hdataMask : dataField 0x3000000#26 = 0#8 := by decide
  have hw : kindField w &&& 3#2 = kindField w := BitVec.and_allOnes
  simp [word_eq_iff, hkind, haddr, hdata, hkindMask, haddrMask, hdataMask, hw]

/-- A mask that keeps the kind and the address of a WRITE word masks its data alone. -/
theorem writeOp_and (a : Addr) (d : Byte) {m : OpWord} (hkind : kindField m = 3#2) (haddr : addrField m = 0xFFFF#16) :
    writeOp a d &&& m = writeOp a (d &&& dataField m) := by
  have ha : a &&& 0xFFFF#16 = a := BitVec.and_allOnes
  simp [word_eq_iff, hkind, haddr, ha]

theorem writeOp_eq_and_full (a : Addr) {b d : Byte} (h : b = d) : writeOp a b = writeOp a d &&& 0x3FFFFFF := by
  rw [h]
  exact BitVec.and_allOnes.symm

/-! ## Encoding a decoded word again -/

theorem decodeWrite_wellFormed (a : Addr) (d : Byte) : (decodeWrite a d).wellFormed = true := by
  by_cases h : a ∈ decodedWriteAddrs
  · have hall : ∀ a ∈ decodedWriteAddrs, (decodeWrite a d).wellFormed = true := by
      simp only [decodedWriteAddrs, List.forall_mem_cons]
      exact ⟨rfl, rfl, rfl, rfl, rfl, rfl, rfl, rfl, rfl, rfl, rfl, rfl, rfl, by simp⟩
    exact hall a h
  · simpa [decodeWrite_of_notMem h, Instr.wellFormed] using h

theorem encode_decodeWrite (a : Addr) (d : Byte) :
    encode (decodeWrite a d) = writeOp a d &&& usedBits (decodeWrite a d) := by
  by_cases h : a ∈ decodedWriteAddrs
  · have hall : ∀ a ∈ decodedWriteAddrs, encode (decodeWrite a d) = writeOp a d &&& usedBits (decodeWrite a d) := by
      have hctrl (a : Addr) := writeOp_eq_and_full a (packSqCtrl_of_fields d)
      have hsweep (a : Addr) := writeOp_eq_and_full a (packSqSweep_of_fields d)
      have htlo (a : Addr) := writeOp_eq_and_full a (rfl : d = d)
      have hthi (a : Addr) := writeOp_eq_and_full a (packThi_of_fields d)
      have htri := writeOp_eq_and_full 0x4008 (packTriCtrl_of_fields d)
      have hstatus := (congrArg (writeOp 0x4015) (packStatus_of_fields d)).trans
        (writeOp_and 0x4015 d (m := 0x3FFFF1F) (by decide) (by decide)).symm
      have hframe := (congrArg (writeOp 0x4017) (packFrame_of_fields d)).trans
        (writeOp_and 0x4017 d (m := 0x3FFFFC0) (by decide) (by decide)).symm
      simp only [decodedWriteAddrs, List.forall_mem_cons]
      exact ⟨hctrl _, hsweep _, htlo _, hthi _, hctrl _, hsweep _, htlo _, hthi _, htri, htlo _, hthi _, hstatus,
        hframe, by simp⟩
    exact hall a h
  · rw [decodeWrite_of_notMem h]
    exact writeOp_eq_and_full a rfl

theorem encode_decodeRead {op : OpWord} (h : kindField op = 0#2) :
    encode (decodeRead (addrField op)) = op &&& usedBits (decodeRead (addrField op)) := by
  by_cases ha : addrField op = 0x4015
  · have hread := and_eq_readOp h
    rw [ha] at hread ⊢
    exact hread.symm
  · rw [decodeRead_of_ne ha]
    exact (and_eq_readOp h).symm

theorem decodeRead_wellFormed (a : Addr) : (decodeRead a).wellFormed = true := by
  by_cases ha : a = 0x4015
  · rw [ha]
    rfl
  · rw [decodeRead_of_ne ha]
    exact bne_iff_ne.mpr ha

/-! ## Decoding by the kind (R80) -/

theorem decode_of_read {op : OpWord} (h : kindField op = 0#2) : decode op = decodeRead (addrField op) := by
  simp [decode, h]

theorem decode_of_write {op : OpWord} (h : kindField op = 1#2) :
    decode op = decodeWrite (addrField op) (dataField op) := by
  simp [decode, h]

theorem decode_of_tick {op : OpWord} (h : kindField op = 2#2) : decode op = .tick := by simp [decode, h]

theorem decode_of_sample {op : OpWord} (h : kindField op = 3#2) : decode op = .sample := by simp [decode, h]

/-- Settles O11, by the kind of the word. -/
theorem encodeOfDecodeClearsIgnoredBits : Obligations.EncodeOfDecodeClearsIgnoredBits := by
  unfold Obligations.EncodeOfDecodeClearsIgnoredBits
  intro op
  obtain h | h | h | h := kindField_cases op
  · rw [decode_of_read h]
    exact ⟨decodeRead_wellFormed _, encode_decodeRead h⟩
  · rw [decode_of_write h]
    refine ⟨decodeWrite_wellFormed _ _, ?_⟩
    have hencode := encode_decodeWrite (addrField op) (dataField op)
    rwa [← eq_writeOp h] at hencode
  · rw [decode_of_tick h]
    exact ⟨rfl, (and_kindMask (w := tickOp) h (by decide) (by decide)).symm⟩
  · rw [decode_of_sample h]
    exact ⟨rfl, (and_kindMask (w := sampleOp) h (by decide) (by decide)).symm⟩

end Sys2Proof
end

section
/-!
PROOFS. The opcode table's selection rule agrees with the decoder (30_encoding.md R82), and the words and formats of
the spec decode as it says (R80, R85, R89).
-/

namespace Sys2Proof

/-! ## What a row's mask looks at (R82) -/

theorem fullRows_pattern : ∀ r ∈ opcodeTable, r.fullMask = true → r.mask = 0x3FFFF00#26 ∧
    (kindField r.pattern = 1#2 ∧ addrField r.pattern ∈ decodedWriteAddrs ∨
      kindField r.pattern = 0#2 ∧ addrField r.pattern = 0x4015#16) := by decide

theorem rows_mask : ∀ r ∈ opcodeTable,
    dataField r.mask = 0#8 ∧ (r.fullMask = false → addrField r.mask = 0#16) := by decide

/-- Every row looks at the kind and the address of a word alone. -/
theorem hits_congr {r : OpRow} (hr : r ∈ opcodeTable) {x y : OpWord} (hkind : kindField x = kindField y)
    (haddr : addrField x = addrField y) : r.hits x = r.hits y := by
  have hmask : x &&& r.mask = y &&& r.mask := by simp [word_eq_iff, hkind, haddr, (rows_mask r hr).1]
  rw [OpRow.hits, OpRow.hits, hmask]

/-- A catch-all row looks at the kind alone. -/
theorem hits_congr_kind {r : OpRow} (hr : r ∈ opcodeTable) (hfull : r.fullMask = false) {x y : OpWord}
    (hkind : kindField x = kindField y) : r.hits x = r.hits y := by
  obtain ⟨hdata, haddr⟩ := rows_mask r hr
  have hmask : x &&& r.mask = y &&& r.mask := by simp [word_eq_iff, hkind, hdata, haddr hfull]
  rw [OpRow.hits, OpRow.hits, hmask]

/-- A full-mask row hits the words of the one register it names. -/
theorem fullRow_hits {r : OpRow} (hr : r ∈ opcodeTable) (hfull : r.fullMask = true) {op : OpWord}
    (hhit : r.hits op = true) :
    kindField op = 1#2 ∧ addrField op ∈ decodedWriteAddrs ∨ kindField op = 0#2 ∧ addrField op = 0x4015#16 := by
  obtain ⟨hmask, hpattern⟩ := fullRows_pattern r hr hfull
  have hkindMask : kindField 0x3FFFF00#26 = 3#2 := by decide
  have haddrMask : addrField 0x3FFFF00#26 = 0xFFFF#16 := by decide
  have heq : op &&& 0x3FFFF00#26 = r.pattern := by simpa [OpRow.hits, hmask] using hhit
  have hkind : kindField op = kindField r.pattern := by
    rw [← heq, kindField_and, hkindMask]
    exact BitVec.and_allOnes.symm
  have haddr : addrField op = addrField r.pattern := by
    rw [← heq, addrField_and, haddrMask]
    exact BitVec.and_allOnes.symm
  rwa [hkind, haddr]

/-! ## The rows a word selects -/

theorem selectedRows_congr {x y : OpWord} (hkind : kindField x = kindField y) (haddr : addrField x = addrField y) :
    selectedRows x = selectedRows y := by
  have hfilter (p : OpRow → Bool) :
      opcodeTable.filter (fun r => p r && r.hits x) = opcodeTable.filter (fun r => p r && r.hits y) :=
    List.filter_congr fun r hr => by rw [hits_congr hr hkind haddr]
  simp only [selectedRows, hfilter OpRow.fullMask, hfilter (fun r => !r.fullMask)]

/-- A word of no decoded register selects the catch-all rows of its kind. -/
theorem selectedRows_catchAll {x y : OpWord} (hwrite : ¬ (kindField x = 1#2 ∧ addrField x ∈ decodedWriteAddrs))
    (hread : ¬ (kindField x = 0#2 ∧ addrField x = 0x4015#16)) (hkind : kindField x = kindField y) :
    selectedRows x = opcodeTable.filter (fun r => !r.fullMask && r.hits y) := by
  have hnone : opcodeTable.filter (fun r => r.fullMask && r.hits x) = [] := by
    refine List.filter_eq_nil_iff.mpr fun r hr h => ?_
    obtain ⟨hfull, hhit⟩ := Bool.and_eq_true_iff.mp h
    exact (fullRow_hits hr hfull hhit).elim hwrite hread
  rw [selectedRows, hnone]
  refine List.filter_congr fun r hr => ?_
  cases hfull : r.fullMask with
  | true => rfl
  | false => rw [hits_congr_kind hr hfull hkind]

theorem mem_opcodeTable_of_mem_selectedRows {op : OpWord} {r : OpRow} (h : r ∈ selectedRows op) : r ∈ opcodeTable := by
  unfold selectedRows at h
  split at h
  · exact (List.mem_filter.mp h).1
  · exact (List.mem_filter.mp h).1

/-! ## The selected row is the decoded operation's -/

theorem selectedRows_mnemonic_write {op : OpWord} (h : kindField op = 1#2) :
    (selectedRows op).map OpRow.mnemonic = [(decodeWrite (addrField op) (dataField op)).mnemonic] := by
  by_cases ha : addrField op ∈ decodedWriteAddrs
  · have hall : ∀ a ∈ decodedWriteAddrs, ∀ d,
        (selectedRows (writeOp a 0)).map OpRow.mnemonic = [(decodeWrite a d).mnemonic] := by
      simp only [decodedWriteAddrs, List.forall_mem_cons]
      exact ⟨fun _ => rfl, fun _ => rfl, fun _ => rfl, fun _ => rfl, fun _ => rfl, fun _ => rfl, fun _ => rfl,
        fun _ => rfl, fun _ => rfl, fun _ => rfl, fun _ => rfl, fun _ => rfl, fun _ => rfl, by simp⟩
    rw [selectedRows_congr (y := writeOp (addrField op) 0) (by simp [h]) (by simp)]
    exact hall _ ha _
  · rw [selectedRows_catchAll (y := 0x1000000) (fun e => ha e.2) (by simp [h]) (h.trans (by decide)),
      decodeWrite_of_notMem ha]
    rfl

theorem selectedRows_mnemonic_read {op : OpWord} (h : kindField op = 0#2) :
    (selectedRows op).map OpRow.mnemonic = [(decodeRead (addrField op)).mnemonic] := by
  by_cases ha : addrField op = 0x4015#16
  · rw [selectedRows_congr (y := 0x0401500) (h.trans (by decide)) (ha.trans (by decide)), ha]
    rfl
  · rw [selectedRows_catchAll (y := 0) (by simp [h]) (fun e => ha e.2) (h.trans (by decide)), decodeRead_of_ne ha]
    rfl

theorem selectedRows_mnemonic (op : OpWord) : (selectedRows op).map OpRow.mnemonic = [(decode op).mnemonic] := by
  obtain h | h | h | h := kindField_cases op
  · rw [decode_of_read h, selectedRows_mnemonic_read h]
  · rw [decode_of_write h, selectedRows_mnemonic_write h]
  · rw [decode_of_tick h, selectedRows_catchAll (y := tickOp) (by simp [h]) (by simp [h]) (h.trans (by decide))]
    rfl
  · rw [decode_of_sample h, selectedRows_catchAll (y := sampleOp) (by simp [h]) (by simp [h]) (h.trans (by decide))]
    rfl

/-- Settles O12: the list of the selected rows' mnemonics is the decoded operation's alone (`selectedRows_mnemonic`),
so one row is selected. -/
theorem everyWordSelectsItsTableRow : Obligations.EveryWordSelectsItsTableRow := by
  unfold Obligations.EveryWordSelectsItsTableRow
  intro op
  obtain ⟨r, hsel, hname⟩ := List.map_eq_singleton_iff.mp (selectedRows_mnemonic op)
  exact ⟨r, hsel, mem_opcodeTable_of_mem_selectedRows (hsel ▸ List.mem_singleton_self r), hname⟩

/-! ## Words and formats of the spec -/

/-- Settles O7: eleven closed words, each decoded by evaluation. -/
theorem specWordsDecode : Obligations.SpecWordsDecode := by
  unfold Obligations.SpecWordsDecode
  decide

/-- Settles O9: as for the other formats (`writeFormatsDecode`), each operand is a quotient and remainder of the data
byte. -/
theorem sweepAndStatusFormatsDecode : Obligations.SweepAndStatusFormatsDecode := by
  unfold Obligations.SweepAndStatusFormatsDecode
  intro d
  obtain ⟨hsq1, hsq2⟩ := decode_writeOp_sqSweep d
  refine ⟨⟨_, _, _, _, hsq1, hsq2, Byte.getLsbD_seven d, toNat_extractLsb'_eq_div_mod d 4 3, getLsbD_eq_div_mod d 3,
    toNat_extractLsb'_zero d 3⟩, ?status⟩
  case status =>
    have hzero : d.getLsbD 0 = decide (d.toNat % 2 = 1) := by
      rw [getLsbD_eq_div_mod, Nat.pow_zero, Nat.div_one]
    rw [decode_writeOp_status, hzero, getLsbD_eq_div_mod d 1, getLsbD_eq_div_mod d 2, getLsbD_eq_div_mod d 3,
      getLsbD_eq_div_mod d 4]
    rfl

end Sys2Proof
end

section
/-!
PROOFS. The step over the queue of issued operations (00_scope.md R9, R10; 20_memory.md R70; 60_exceptions.md R260,
R272; log entry 1).
-/

namespace Sys2Proof.Machine

theorem step_of_pending_nil {s : State} (h : s.pending = []) : step s = .next s := by
  simp [step, nextOperation, h]

theorem step_of_pending_cons {s : State} {op : OpWord} {rest : List OpWord} (h : s.pending = op :: rest) :
    step s = exec (decode op) { s with pending := rest } := by
  simp [step, nextOperation, h]

/-- Settles O4: with an empty queue there is no next operation (`step_of_pending_nil`). -/
theorem stepIdlesWhenNothingIsIssued : Obligations.StepIdlesWhenNothingIsIssued := by
  unfold Obligations.StepIdlesWhenNothingIsIssued
  exact fun _ => step_of_pending_nil

/-- A number of at most 26 bits is the operation its word decodes to. -/
theorem decodeTableWord_of_lt {w : Nat} (h : w < 2 ^ 26) :
    decodeTableWord 32 w = some (decode (BitVec.ofNat 26 w)) := by
  have hmod : w % 2 ^ 32 = w := Nat.mod_eq_of_lt (by omega)
  rw [decodeTableWord, hmod, decodeNat, if_pos h]

/-- `withFetchWord` issues its word in front of whatever is still issued. -/
theorem step_withFetchWord {s : State} {w : Nat} (h : w < 2 ^ 26) :
    step (s.withFetchWord 32 w) = exec (decode (BitVec.ofNat 26 w)) s := by
  have hmod : w % 2 ^ 32 = w := Nat.mod_eq_of_lt (by omega)
  have hpending : (s.withFetchWord 32 w).pending = BitVec.ofNat 26 w :: s.pending :=
    congrArg (BitVec.ofNat 26 · :: s.pending) hmod
  exact step_of_pending_cons hpending

/-- Settles O3: the queue's head is the next operation (`step_of_pending_cons`), and a placed word is the queue's head
(`step_withFetchWord`). -/
theorem stepRunsTheIssuedOperation : Obligations.StepRunsTheIssuedOperation := by
  unfold Obligations.StepRunsTheIssuedOperation
  exact ⟨fun _ _ _ => step_of_pending_cons, fun _ _ hw => ⟨_, decodeTableWord_of_lt hw, rfl, step_withFetchWord hw⟩⟩

/-- R260: no arm of the dispatch faults or refuses. -/
theorem exec_completes (i : Instr) (s : State) : ∃ t, exec i s = .next t := by
  cases i <;> exact ⟨_, rfl⟩

/-- Settles O5: a step with nothing issued keeps the state, and any other step is an operation. -/
theorem everyOperationCompletes : Obligations.EveryOperationCompletes := by
  unfold Obligations.EveryOperationCompletes
  refine ⟨exec_completes, fun s => ?_⟩
  obtain ⟨-, hidle⟩ | ⟨op, rest, -, hexec⟩ := step_cases s
  · exact ⟨s, hidle⟩
  · rw [hexec]
    exact exec_completes _ _

/-- A TICK keeps the operations still issued. -/
theorem tickCycle_pending_eq (s : State) : (tickCycle s).pending = s.pending :=
  calc (tickCycle s).pending
      _ = (frameTick (timerStep s)).pending := sampleStep_pending _
      _ = (timerStep s).pending := frameTick_pending _
      _ = s.pending := timerStep_pending s

/-- A step whose next issued word is a TICK is one cycle, whatever is issued behind it. -/
theorem step_tick (s : State) (rest : List OpWord) :
    step { s with pending := tickOp :: rest } = .next { tickCycle s with pending := rest } := by
  rw [step_of_pending_cons rfl, decode_tickOp, exec_tick]
  exact congrArg Host.Outcome.next (tickCycle_pending s rest)

/-- A run takes its first step and then the rest. -/
theorem core_run_succ (M : Host.Core) {s t : M.State} (h : M.step s = .next t) (n : Nat) :
    M.run (n + 1) s = M.run n t := by
  rw [Host.Core.run, h]

/-- Settles O6, by induction on the number of TICKs. -/
theorem issuedTicksRunOneAtATime : Obligations.IssuedTicksRunOneAtATime := by
  unfold Obligations.IssuedTicksRunOneAtATime
  intro n
  induction n with
  | zero => exact fun _ => rfl
  | succ n ih =>
    intro s
    have hstep : core.step { s with pending := tickOps (n + 1) ++ s.pending } =
        .next { tickCycle s with pending := tickOps n ++ s.pending } := step_tick s _
    have hrest := ih (tickCycle s)
    rw [tickCycle_pending_eq] at hrest
    exact (core_run_succ core hstep n).trans hrest

end Sys2Proof.Machine
end

section
/-!
PROOFS. The invariant (10_state.md section 6, R59; 44_frame_sequencer.md R226; 45_mixer.md R247): it is a condition on
each unit, and each operation keeps the condition of the units it writes.
-/

namespace Sys2Proof.Machine

/-! ## The invariant, unit by unit -/

/-- R59(a) and R59(b) for one channel. -/
def LengthOk (c : Config) (enabled : Bool) (counter : BitVec 8) : Prop :=
  counter.toNat ≤ maxLength c ∧ (enabled = false → counter = 0)

/-- R59(a) and R59(b) for the three channels. -/
structure ChannelsOk (s : State) : Prop where
  sq1 : LengthOk s.config s.sq1.enabled s.sq1.lengthCounter
  sq2 : LengthOk s.config s.sq2.enabled s.sq2.lengthCounter
  tri : LengthOk s.config s.tri.enabled s.tri.lengthCounter

/-- R52, R53 and R226: the mode has a step at the index, and its offset lies ahead. -/
def SequencerOk (c : Config) (f : FrameSequencer) : Prop :=
  ∃ offset, (stepOffsets c f.mode)[f.stepIndex.val]? = some offset ∧ f.cycleCounter < offset

/-- R247: the sample counter lies below the sample period. -/
def SampleOk (c : Config) (counter : Nat) : Prop := ∀ p, c.samplePeriod = some p → counter < p

theorem inv_iff {s : State} :
    Inv s ↔ s.config.WellFormed ∧ ChannelsOk s ∧ SequencerOk s.config s.fs ∧
      SampleOk s.config s.apu.sampleCounter := by
  constructor
  · rintro ⟨hwf, ⟨h1, h2, h3⟩, ⟨d1, d2, d3⟩, hnext, hsample⟩
    exact ⟨hwf, ⟨⟨h1, d1⟩, ⟨h2, d2⟩, ⟨h3, d3⟩⟩, hnext, hsample⟩
  · rintro ⟨hwf, ⟨⟨h1, d1⟩, ⟨h2, d2⟩, ⟨h3, d3⟩⟩, hnext, hsample⟩
    exact ⟨hwf, ⟨h1, h2, h3⟩, ⟨d1, d2, d3⟩, hnext, hsample⟩

/-! ## The length counters -/

/-- A table entry is at most the largest one. -/
theorem toNat_le_foldr_max {l : List Byte} {b : Byte} (h : b ∈ l) :
    b.toNat ≤ l.foldr (fun b m => max b.toNat m) 0 := by
  induction l with
  | nil => cases h
  | cons x xs ih =>
    obtain rfl | hxs := List.mem_cons.mp h
    · exact Nat.le_max_left _ _
    · exact (ih hxs).trans (Nat.le_max_right _ _)

theorem LengthOk.load {c : Config} {enabled : Bool} {counter : BitVec 8} (h : LengthOk c enabled counter)
    (index : BitVec 5) : LengthOk c enabled (lengthLoad c enabled index counter) := by
  cases enabled with
  | false => exact h
  | true => exact ⟨toNat_le_foldr_max (List.getElem_mem _), fun e => nomatch e⟩

theorem LengthOk.gate {c : Config} {old : Bool} {counter : BitVec 8} (h : LengthOk c old counter) (enabled : Bool) :
    LengthOk c enabled (gateLength enabled counter) := by
  cases enabled with
  | false => exact ⟨Nat.zero_le _, fun _ => rfl⟩
  | true => exact ⟨h.1, fun e => nomatch e⟩

/-- A counter that does not rise keeps the bound, and one at 0 stays there. -/
theorem LengthOk.of_le {c : Config} {enabled : Bool} {counter lower : BitVec 8} (h : LengthOk c enabled counter)
    (hle : lower.toNat ≤ counter.toNat) : LengthOk c enabled lower := by
  refine ⟨hle.trans h.1, fun e => (eq_zero_iff_toNat lower).mpr ?_⟩
  have hzero := (eq_zero_iff_toNat counter).mp (h.2 e)
  omega

theorem LengthOk.squareKept {c : Config} {q r : Square} (h : LengthOk c q.enabled q.lengthCounter)
    (hkept : SquareKept q r) : LengthOk c r.enabled r.lengthCounter := by
  rw [hkept.enabled]
  exact h.of_le hkept.lengthCounter

theorem LengthOk.triangleKept {c : Config} {t u : Triangle} (h : LengthOk c t.enabled t.lengthCounter)
    (hkept : TriangleKept t u) : LengthOk c u.enabled u.lengthCounter := by
  rw [hkept.enabled]
  exact h.of_le hkept.lengthCounter

/-! ## The frame sequencer -/

/-- R221: the offsets of the mode are strictly increasing from a positive one on. -/
def OffsetsIncrease (c : Config) (m : FrameMode) : Prop := (0 :: stepOffsets c m).Pairwise (· < ·)

theorem offsetsIncrease_of_wellFormed {c : Config} (h : c.WellFormed) (m : FrameMode) : OffsetsIncrease c m := by
  obtain ⟨hfour, hfive, -⟩ := h
  cases m with
  | fourStep => exact hfour
  | fiveStep => exact hfive

theorem OffsetsIncrease.pos {c : Config} {m : FrameMode} (h : OffsetsIncrease c m) {i offset : Nat}
    (hi : (stepOffsets c m)[i]? = some offset) : 0 < offset :=
  List.rel_of_pairwise_cons h (List.mem_of_getElem? hi)

theorem OffsetsIncrease.lt {c : Config} {m : FrameMode} (h : OffsetsIncrease c m) {i j a b : Nat} (hij : i < j)
    (hi : (stepOffsets c m)[i]? = some a) (hj : (stepOffsets c m)[j]? = some b) : a < b := by
  obtain ⟨hi', rfl⟩ := List.getElem?_eq_some_iff.mp hi
  obtain ⟨hj', rfl⟩ := List.getElem?_eq_some_iff.mp hj
  exact List.pairwise_iff_getElem.mp (List.Pairwise.of_cons h) i j hi' hj' hij

/-- A mode has an offset at every index below its step count. -/
theorem exists_stepOffset {c : Config} {m : FrameMode} {i : Nat} (h : i < stepCount m) :
    ∃ offset, (stepOffsets c m)[i]? = some offset :=
  ⟨_, List.getElem?_eq_getElem (by rwa [stepOffsets_length])⟩

theorem lt_stepCount_of_stepOffset {c : Config} {m : FrameMode} {i offset : Nat}
    (h : (stepOffsets c m)[i]? = some offset) : i < stepCount m := by
  obtain ⟨hlt, -⟩ := List.getElem?_eq_some_iff.mp h
  rwa [stepOffsets_length] at hlt

theorem stepCount_pos (m : FrameMode) : 0 < stepCount m := by cases m <;> decide

/-- The start of a sequence, in either mode. -/
theorem SequencerOk.start {c : Config} {f : FrameSequencer} (h : OffsetsIncrease c f.mode)
    (hindex : f.stepIndex.val = 0) (hcounter : f.cycleCounter = 0) : SequencerOk c f := by
  obtain ⟨offset, hoffset⟩ := exists_stepOffset (c := c) (stepCount_pos f.mode)
  refine ⟨offset, by rwa [hindex], ?_⟩
  rw [hcounter]
  exact h.pos hoffset

/-- After a step the next one lies ahead, or the sequence starts again (R226). -/
theorem SequencerOk.advance {c : Config} {f : FrameSequencer} (h : OffsetsIncrease c f.mode)
    (hdue : (stepOffsets c f.mode)[f.stepIndex.val]? = some f.cycleCounter) : SequencerOk c (advanceStep f) := by
  have hnext := advanceStep_stepIndex_val (lt_stepCount_of_stepOffset hdue)
  by_cases hlast : f.stepIndex.val + 1 = stepCount f.mode
  · refine .start (by rwa [advanceStep_mode]) (by rw [hnext, hlast, Nat.mod_self]) ?_
    rw [advanceStep_eq, if_pos hlast]
  · have hlt : f.stepIndex.val + 1 < stepCount f.mode := by
      have hindex := lt_stepCount_of_stepOffset hdue
      omega
    obtain ⟨offset, hoffset⟩ := exists_stepOffset (c := c) hlt
    refine ⟨offset, ?_, ?_⟩
    · rwa [advanceStep_mode, hnext, Nat.mod_eq_of_lt hlt]
    · rw [advanceStep_eq, if_neg hlast]
      exact h.lt (Nat.lt_succ_self _) hdue hoffset

/-- The step that lies ahead, with its action. -/
theorem SequencerOk.frameStepAt {c : Config} {f : FrameSequencer} (h : SequencerOk c f) :
    ∃ offset action, frameStepAt c f.mode f.stepIndex = some (offset, action) ∧ f.cycleCounter < offset := by
  obtain ⟨offset, hoffset, hahead⟩ := h
  obtain ⟨offset', action, hstep⟩ := frameStepAt_isSome (c := c) (lt_stepCount_of_stepOffset hoffset)
  obtain ⟨hoffset', -⟩ := frameStepAt_eq_some.mp hstep
  obtain rfl : offset = offset' := Option.some_inj.mp (hoffset.symm.trans hoffset')
  exact ⟨offset, action, hstep, hahead⟩

theorem SequencerOk.frameTick {s : State} (h : OffsetsIncrease s.config s.fs.mode)
    (hok : SequencerOk s.config s.fs) : SequencerOk s.config (frameTick s).fs := by
  obtain ⟨offset, action, hstep, hahead⟩ := hok.frameStepAt
  obtain ⟨hoffset, -⟩ := frameStepAt_eq_some.mp hstep
  by_cases hdue : s.fs.cycleCounter + 1 = offset
  · rw [frameTick_of_eq_offset hstep hdue]
    exact .advance h hoffset
  · rw [frameTick_of_ne_offset hstep hdue]
    exact ⟨offset, hoffset, Nat.lt_of_le_of_ne hahead hdue⟩

/-! ## The sample counter -/

theorem SampleOk.schedule {c : Config} {counter : Nat} (h : SampleOk c counter) :
    SampleOk c (sampleSchedule c.samplePeriod counter).1 := by
  intro p hp
  have hlt := h p hp
  rw [hp, sampleSchedule]
  split
  · exact Nat.zero_lt_of_lt hlt
  · show counter + 1 < p
    omega

/-! ## Every operation keeps the invariant -/

/-- The invariant does not look at the operations still issued or the values handed back. -/
theorem Inv.congr {s t : State} (h : Inv s) (hsq1 : t.sq1 = s.sq1) (hsq2 : t.sq2 = s.sq2) (htri : t.tri = s.tri)
    (hfs : t.fs = s.fs) (hapu : t.apu = s.apu) (hconfig : t.config = s.config) : Inv t := by
  obtain ⟨hwf, ⟨h1, h2, h3⟩, hnext, hsample⟩ := inv_iff.mp h
  rw [← hconfig] at hwf h1 h2 h3 hnext hsample
  rw [← hsq1] at h1
  rw [← hsq2] at h2
  rw [← htri] at h3
  exact inv_iff.mpr ⟨hwf, ⟨h1, h2, h3⟩, hfs ▸ hnext, hapu ▸ hsample⟩

theorem Inv.respond {s : State} (h : Inv s) (o : Output) : Inv (s.respond o) := h.congr rfl rfl rfl rfl rfl rfl

theorem Inv.setSquare {s : State} (h : Inv s) (n : SquareId) {q : Square}
    (hq : LengthOk s.config q.enabled q.lengthCounter) : Inv (s.setSquare n q) := by
  obtain ⟨hwf, ⟨h1, h2, h3⟩, hnext, hsample⟩ := inv_iff.mp h
  cases n with
  | one => exact inv_iff.mpr ⟨hwf, ⟨hq, h2, h3⟩, hnext, hsample⟩
  | two => exact inv_iff.mpr ⟨hwf, ⟨h1, hq, h3⟩, hnext, hsample⟩

theorem Inv.setTri {s : State} (h : Inv s) {t : Triangle} (ht : LengthOk s.config t.enabled t.lengthCounter) :
    Inv (s.setTri t) := by
  obtain ⟨hwf, ⟨h1, h2, -⟩, hnext, hsample⟩ := inv_iff.mp h
  exact inv_iff.mpr ⟨hwf, ⟨h1, h2, ht⟩, hnext, hsample⟩

theorem Inv.setFs {s : State} (h : Inv s) {f : FrameSequencer} (hf : SequencerOk s.config f) : Inv (s.setFs f) := by
  obtain ⟨hwf, hchannels, -, hsample⟩ := inv_iff.mp h
  exact inv_iff.mpr ⟨hwf, ⟨hchannels.sq1, hchannels.sq2, hchannels.tri⟩, hf, hsample⟩

theorem ChannelsOk.kept {s t : State} (h : ChannelsOk s) (hconfig : t.config = s.config)
    (hsq1 : SquareKept s.sq1 t.sq1) (hsq2 : SquareKept s.sq2 t.sq2) (htri : TriangleKept s.tri t.tri) :
    ChannelsOk t := by
  constructor <;> rw [hconfig]
  · exact h.sq1.squareKept hsq1
  · exact h.sq2.squareKept hsq2
  · exact h.tri.triangleKept htri

theorem Inv.sendClocks {s : State} (h : Inv s) (a : FrameAction) : Inv (sendClocks a s) := by
  obtain ⟨hwf, hchannels, hnext, hsample⟩ := inv_iff.mp h
  obtain ⟨hsq1, hsq2, htri⟩ := sendClocks_kept a s
  refine inv_iff.mpr ⟨?_, hchannels.kept (sendClocks_config a s) hsq1 hsq2 htri, ?_, ?_⟩ <;>
    rw [sendClocks_config]
  · exact hwf
  · rwa [sendClocks_fs]
  · rwa [sendClocks_apu]

theorem Inv.timerStep {s : State} (h : Inv s) : Inv (timerStep s) := by
  obtain ⟨hwf, ⟨h1, h2, h3⟩, hnext, hsample⟩ := inv_iff.mp h
  obtain ⟨_, _, _, _, hsq1, hsq2⟩ := timerStep_square_frame s
  refine inv_iff.mpr ⟨?_, ⟨?_, ?_, ?_⟩, ?_, ?_⟩ <;> rw [timerStep_config]
  · exact hwf
  · rwa [hsq1]
  · rwa [hsq2]
  · rwa [timerStep_tri]
  · rwa [timerStep_fs]
  · rwa [timerStep_apu]

theorem Inv.frameTick {s : State} (h : Inv s) : Inv (frameTick s) := by
  obtain ⟨hwf, hchannels, hnext, hsample⟩ := inv_iff.mp h
  obtain ⟨hsq1, hsq2, htri⟩ := frameTick_kept s
  refine inv_iff.mpr ⟨?_, hchannels.kept (frameTick_config s) hsq1 hsq2 htri, ?_, ?_⟩ <;> rw [frameTick_config]
  · exact hwf
  · exact hnext.frameTick (offsetsIncrease_of_wellFormed hwf _)
  · rwa [frameTick_apu]

theorem Inv.sampleStep {s : State} (h : Inv s) : Inv (sampleStep s) := by
  obtain ⟨hwf, ⟨h1, h2, h3⟩, hnext, hsample⟩ := inv_iff.mp h
  exact inv_iff.mpr ⟨hwf, ⟨h1, h2, h3⟩, hnext, hsample.schedule⟩

theorem Inv.execWrStatus {s t : State} (h : Inv s) {square1 square2 triangle noise dmc : Bool}
    (hexec : exec (.wrStatus square1 square2 triangle noise dmc) s = .next t) : Inv t := by
  obtain ⟨hwf, ⟨h1, h2, h3⟩, hnext, hsample⟩ := inv_iff.mp h
  cases hexec
  exact inv_iff.mpr ⟨hwf, ⟨h1.gate square1, h2.gate square2, h3.gate triangle⟩, hnext, hsample⟩

/-- R59, R226, R247 for one operation: it keeps the condition of each unit it writes. -/
theorem exec_inv {i : Instr} {s t : State} (h : Inv s) (hexec : exec i s = .next t) : Inv t := by
  obtain ⟨hwf, ⟨h1, h2, h3⟩, -, -⟩ := inv_iff.mp h
  cases i with
  | wrSq1Ctrl | wrSq1Sweep | wrSq1Tlo =>
    cases hexec
    exact h.setSquare .one h1
  | wrSq2Ctrl | wrSq2Sweep | wrSq2Tlo =>
    cases hexec
    exact h.setSquare .two h2
  | wrSq1Thi index high =>
    cases hexec
    exact h.setSquare .one (h1.load index)
  | wrSq2Thi index high =>
    cases hexec
    exact h.setSquare .two (h2.load index)
  | wrTriCtrl | wrTriTlo =>
    cases hexec
    exact h.setTri h3
  | wrTriThi index high =>
    cases hexec
    exact h.setTri (h3.load index)
  | wrStatus => exact h.execWrStatus hexec
  | wrFrame mode inhibit =>
    have hrestarted := h.setFs (f := ⟨mode, 0, 0, inhibit⟩) (.start (offsetsIncrease_of_wellFormed hwf mode) rfl rfl)
    cases hexec
    cases mode with
    | fourStep => exact hrestarted
    | fiveStep => exact hrestarted.sendClocks stepQH
  | wrIgnored =>
    cases hexec
    exact h
  | rdStatus | rdZero | sample =>
    cases hexec
    exact h.respond _
  | tick =>
    cases hexec
    exact h.timerStep.frameTick.sampleStep

/-- Settles O59: a step is idle or is an operation (`exec_inv`) on the state without the word it takes. -/
theorem invariantIsKeptByEveryStep : Obligations.InvariantIsKeptByEveryStep := by
  unfold Obligations.InvariantIsKeptByEveryStep
  intro s t h hstep
  obtain ⟨-, hidle⟩ | ⟨op, rest, -, hexec⟩ := step_cases s
  · cases hidle.symm.trans hstep
    exact h
  · have htaken : Inv { s with pending := rest } := h.congr rfl rfl rfl rfl rfl rfl
    exact exec_inv htaken (hexec.symm.trans hstep)

/-! ## Power-on, and every reachable state -/

theorem lengthOk_zero (c : Config) : LengthOk c false 0 := ⟨Nat.zero_le _, fun _ => rfl⟩

theorem inv_powerOn {c : Config} (h : c.WellFormed) : Inv (State.powerOn c) := by
  refine inv_iff.mpr ⟨h, ⟨lengthOk_zero c, lengthOk_zero c, lengthOk_zero c⟩,
    .start (offsetsIncrease_of_wellFormed h .fourStep) rfl rfl, fun p hp => ?_⟩
  refine Nat.pos_of_ne_zero ?_
  rintro rfl
  obtain ⟨-, -, hperiod⟩ := h
  exact hperiod hp

/-- Settles O58: every counter is 0 and the default configuration is well formed. -/
theorem invariantHoldsAtPowerOn : Obligations.InvariantHoldsAtPowerOn := by
  unfold Obligations.InvariantHoldsAtPowerOn
  exact ⟨fun _ => inv_powerOn, inv_powerOn (configAtQuarter_wellFormed (by decide))⟩

theorem reachable_inv {c : Config} (h : c.WellFormed) {s : State} (hs : Reachable c s) : Inv s := by
  induction hs with
  | powerOn => exact inv_powerOn h
  | issue op _ ih => exact ih.congr rfl rfl rfl rfl rfl rfl
  | step _ hstep ih => exact invariantIsKeptByEveryStep _ _ ih hstep

theorem stepOffsets_last (c : Config) (m : FrameMode) :
    (stepOffsets c m)[stepCount m - 1]? = some (lastOffset c m) := by
  obtain ⟨last, hlast⟩ := exists_stepOffset (c := c) (Nat.sub_one_lt_of_lt (stepCount_pos m))
  rw [lastOffset, List.getLast?_eq_getElem?, stepOffsets_length, hlast, Option.getD_some]

/-- The last offset of a mode is above every other one (R59(e)). -/
theorem OffsetsIncrease.lt_lastOffset {c : Config} {m : FrameMode} (h : OffsetsIncrease c m) {i offset : Nat}
    (hi : (stepOffsets c m)[i]? = some offset) (hlast : i + 1 ≠ stepCount m) : offset < lastOffset c m := by
  have hindex := lt_stepCount_of_stepOffset hi
  exact h.lt (by omega) hi (stepOffsets_last c m)

theorem eq_lastOffset {c : Config} {m : FrameMode} {i offset : Nat} (hi : (stepOffsets c m)[i]? = some offset)
    (hlast : i + 1 = stepCount m) : offset = lastOffset c m := by
  obtain rfl : i = stepCount m - 1 := by omega
  exact Option.some_inj.mp (hi.symm.trans (stepOffsets_last c m))

theorem OffsetsIncrease.le_lastOffset {c : Config} {m : FrameMode} (h : OffsetsIncrease c m) {i offset : Nat}
    (hi : (stepOffsets c m)[i]? = some offset) : offset ≤ lastOffset c m := by
  by_cases hlast : i + 1 = stepCount m
  · exact (eq_lastOffset hi hlast).le
  · exact (h.lt_lastOffset hi hlast).le

theorem Inv.specInvariants {s : State} (h : Inv s) : SpecInvariants s := by
  obtain ⟨offset, hoffset, hahead⟩ := h.nextStepAhead
  exact
    { lengthBound := h.lengthBound
      disabledIsZero := h.disabledIsZero
      positionBound := ⟨BitVec.isLt _, BitVec.isLt _, BitVec.isLt _⟩
      stepIndexBound := lt_stepCount_of_stepOffset hoffset
      cycleBound := hahead.trans_le ((offsetsIncrease_of_wellFormed h.configWf _).le_lastOffset hoffset) }

/-- Settles O60: a reachable state meets the invariant (`reachable_inv`), which is stronger. -/
theorem specInvariantsHoldInEveryReachableState : Obligations.SpecInvariantsHoldInEveryReachableState := by
  unfold Obligations.SpecInvariantsHoldInEveryReachableState
  exact fun _ hwf _ hs => (reachable_inv hwf hs).specInvariants

end Sys2Proof.Machine
end

section
/-!
PROOFS. The register writes and the status read, whole (40_register_write.md R101, R104, R106, R108, R112, R115, R116;
41_register_read.md R140), two identical writes (20_memory.md R68), and lost length loads (70_reset_and_hazards.md R287,
R289).
-/

namespace Sys2Proof.Machine

/-! ## Whole writes -/

/-- Settles O14: each sweep write is `writeSquareSweep` on its own channel, which names the five fields. -/
theorem squareSweepWrites : Obligations.SquareSweepWrites := by
  unfold Obligations.SquareSweepWrites
  exact fun _ _ _ _ _ => ⟨rfl, rfl⟩

/-- Settles O16: the new period of each channel is `periodWithHigh` of the old one, and the length counter is
`lengthLoad` of the one before. -/
theorem timerHighWrites : Obligations.TimerHighWrites := by
  unfold Obligations.TimerHighWrites
  exact fun _ _ high => ⟨⟨_, periodWithHigh_toNat _ high, rfl⟩, ⟨_, periodWithHigh_toNat _ high, rfl⟩,
    ⟨_, periodWithHigh_toNat _ high, rfl⟩⟩

/-- Settles O19: the write is `enableSquare` and `enableTriangle` on the three channels, and the two stub flags. -/
theorem statusWrite : Obligations.StatusWrite := by
  unfold Obligations.StatusWrite
  exact fun _ _ _ _ _ _ => rfl

/-- Settles O20: a 4-step write is the restarted sequencer alone, and a 5-step write sends the immediate clock on it
(`exec_wrFrame_fiveStep`). -/
theorem frameWrite : Obligations.FrameWrite := by
  unfold Obligations.FrameWrite
  exact fun s inhibit => ⟨rfl, exec_wrFrame_fiveStep inhibit s⟩

/-! ## Two identical writes (R68) -/

@[simp] theorem periodWithLow_idem (period : Period) (low : Byte) :
    periodWithLow (periodWithLow period low) low = periodWithLow period low := by
  have hlow := low.isLt
  refine BitVec.eq_of_toNat_eq ?_
  simp only [periodWithLow_toNat]
  omega

@[simp] theorem periodWithHigh_idem (period : Period) (high : BitVec 3) :
    periodWithHigh (periodWithHigh period high) high = periodWithHigh period high := by
  refine BitVec.eq_of_toNat_eq ?_
  simp only [periodWithHigh_toNat]
  omega

@[simp] theorem lengthLoad_idem (c : Config) (enabled : Bool) (index : BitVec 5) (counter : BitVec 8) :
    lengthLoad c enabled index (lengthLoad c enabled index counter) = lengthLoad c enabled index counter := by
  cases enabled <;> rfl

@[simp] theorem gateLength_idem (enabled : Bool) (counter : BitVec 8) :
    gateLength enabled (gateLength enabled counter) = gateLength enabled counter := by
  cases enabled <;> rfl

theorem writeSquareLow_idem (low : Byte) (q : Square) :
    writeSquareLow low (writeSquareLow low q) = writeSquareLow low q := by
  simp [writeSquareLow]

theorem writeSquareHigh_idem (c : Config) (index : BitVec 5) (high : BitVec 3) (q : Square) :
    writeSquareHigh c index high (writeSquareHigh c index high q) = writeSquareHigh c index high q := by
  simp [writeSquareHigh]

theorem execWrTriTlo_idem (low : Byte) {s t : State} (h : exec (.wrTriTlo low) s = .next t) :
    exec (.wrTriTlo low) t = .next t := by
  cases h
  simp [exec, execWrTriTlo, State.setTri]

theorem execWrTriThi_idem (index : BitVec 5) (high : BitVec 3) {s t : State}
    (h : exec (.wrTriThi index high) s = .next t) : exec (.wrTriThi index high) t = .next t := by
  cases h
  simp [exec, execWrTriThi, State.setTri]

theorem execWrStatus_idem (square1 square2 triangle noise dmc : Bool) {s t : State}
    (h : exec (.wrStatus square1 square2 triangle noise dmc) s = .next t) :
    exec (.wrStatus square1 square2 triangle noise dmc) t = .next t := by
  cases h
  simp [exec, execWrStatus, enableSquare, enableTriangle]

/-- Settles O23, by the cases of the operation: what a write computes from the state, it computes again from the state
it leaves. -/
theorem repeatedWriteIsOneWrite : Obligations.RepeatedWriteIsOneWrite := by
  unfold Obligations.RepeatedWriteIsOneWrite
  intro i s t hwrite hmode h
  have hsquare (n : SquareId) {q r : Square} (e : q = r) :
      (.next (s.setSquare n q) : Host.Outcome State Fault Refusal) = .next (s.setSquare n r) := by rw [e]
  cases i with
  | wrSq1Ctrl | wrSq1Sweep | wrSq2Ctrl | wrSq2Sweep | wrTriCtrl | wrIgnored =>
    cases h
    rfl
  | wrSq1Tlo low =>
    cases h
    exact hsquare .one (writeSquareLow_idem low s.sq1)
  | wrSq2Tlo low =>
    cases h
    exact hsquare .two (writeSquareLow_idem low s.sq2)
  | wrSq1Thi index high =>
    cases h
    exact hsquare .one (writeSquareHigh_idem s.config index high s.sq1)
  | wrSq2Thi index high =>
    cases h
    exact hsquare .two (writeSquareHigh_idem s.config index high s.sq2)
  | wrTriTlo low => exact execWrTriTlo_idem low h
  | wrTriThi index high => exact execWrTriThi_idem index high h
  | wrStatus square1 square2 triangle noise dmc => exact execWrStatus_idem _ _ _ _ _ h
  | wrFrame mode inhibit =>
    cases mode with
    | fourStep =>
      cases h
      rfl
    | fiveStep => exact absurd rfl (hmode inhibit)
  | rdStatus | rdZero | tick | sample => cases hwrite

/-! ## Lost length loads (R287, R289) -/

@[simp] theorem gateLength_zero (enabled : Bool) : gateLength enabled 0#8 = 0#8 := by cases enabled <;> rfl

/-- A $4015 write loads no length counter: one at 0 stays at 0. -/
theorem execWrStatus_lengthCounter {a b c n d : Bool} {t u : State} (h : exec (.wrStatus a b c n d) t = .next u) :
    u.sq1.lengthCounter = gateLength a t.sq1.lengthCounter ∧
    u.sq2.lengthCounter = gateLength b t.sq2.lengthCounter ∧
    u.tri.lengthCounter = gateLength c t.tri.lengthCounter := by
  cases h
  exact ⟨rfl, rfl, rfl⟩

/-- Settles O25: the high-byte write of a disabled channel leaves the counter at 0 (`lengthLoad_disabled`), and the
$4015 write keeps it there. -/
theorem enablingLoadsNoLength : Obligations.EnablingLoadsNoLength := by
  unfold Obligations.EnablingLoadsNoLength
  intro s t u index high a b c n d hstatus
  obtain ⟨hsq1, hsq2, htri⟩ := execWrStatus_lengthCounter hstatus
  rw [hsq1, hsq2, htri]
  refine ⟨fun h henabled hzero => ?_, fun h henabled hzero => ?_, fun h henabled hzero => ?_, fun h => ?_⟩
  · cases h
    simp [writeSquareHigh, henabled, hzero]
  · cases h
    simp [writeSquareHigh, henabled, hzero]
  · cases h
    simp [henabled, hzero]
  · cases h
    simp [enableSquare, enableTriangle, gateLength]

/-! ## The status read (R140) -/

/-- The status byte's bits as a sum. -/
theorem statusBits_toNat (square1 square2 triangle : Bool) :
    ((((0#5) ++ BitVec.ofBool triangle) ++ BitVec.ofBool square2) ++ BitVec.ofBool square1).toNat =
      (if square1 then 1 else 0) + (if square2 then 2 else 0) + (if triangle then 4 else 0) := by
  cases square1 <;> cases square2 <;> cases triangle <;> rfl

theorem statusByte_toNat (s : State) :
    (statusByte s).toNat =
      (if s.sq1.lengthCounter.toNat > 0 then 1 else 0) + (if s.sq2.lengthCounter.toNat > 0 then 2 else 0) +
        (if s.tri.lengthCounter.toNat > 0 then 4 else 0) := by
  simp only [statusByte, statusBits_toNat, decide_eq_true_iff, gt_iff_lt]

/-- Settles O26: the byte handed back is `statusByte` (`exec_rdStatus`), which the bus gives at $4015 alone. -/
theorem statusRead : Obligations.StatusRead := by
  unfold Obligations.StatusRead
  exact fun s => ⟨statusByte s, exec_rdStatus s, statusByte_toNat s, fun _ => rfl⟩

end Sys2Proof.Machine
end

section
/-!
PROOFS. The units that the frame sequencer clocks (43_frame_units.md): the length and envelope clocks (R182, R184,
R200), the sweep unit (R190 to R193), the linear counter (R202, R203), and the order of the clocks of one step (R224).
-/

namespace Sys2Proof.Machine

/-! ## The length clock (R200) -/

/-- Settles O38: either length clock is `lengthStep` on the counter. -/
theorem lengthClockRule : Obligations.LengthClockRule := by
  unfold Obligations.LengthClockRule
  exact ⟨fun _ => ⟨_, rfl, lengthStep_toNat _ _⟩, fun _ => ⟨_, rfl, lengthStep_toNat _ _⟩⟩

/-! ## The envelope clock (R182) -/

/-- The decay level after the divider has expired: one lower, or at 0 what the loop flag says. -/
def nextLevel (loop : Bool) (level : BitVec 4) : BitVec 4 :=
  if level ≠ 0#4 then level - 1#4 else if loop then 15#4 else level

theorem envelopeClock_expire_nextLevel {q : Square} (h : q.envelopeStart = false) (hd : q.envelopeDivider = 0#4) :
    envelopeClock q =
      { q with envelopeDivider := q.volume, envelopeDecay := nextLevel q.lengthHalt q.envelopeDecay } :=
  envelopeClock_expire h hd

theorem nextLevel_toNat (loop : Bool) (level : BitVec 4) :
    (nextLevel loop level).toNat = if level.toNat > 0 then level.toNat - 1 else if loop then 15 else 0 := by
  unfold nextLevel
  by_cases hzero : level = 0#4
  · subst hzero
    cases loop <;> rfl
  · have hpos : 0 < level.toNat := Nat.pos_of_ne_zero (mt (eq_zero_iff_toNat level).mpr hzero)
    rw [if_pos hzero, if_pos hpos, toNat_sub_one level hpos]

/-- Settles O40, branch by branch. -/
theorem envelopeClockRule : Obligations.EnvelopeClockRule := by
  unfold Obligations.EnvelopeClockRule
  refine fun q => ⟨envelopeClock_start, fun hstart hzero => ?expire, fun hstart hpos => ?count⟩
  case expire =>
    have hd := (eq_zero_iff_toNat q.envelopeDivider).mpr hzero
    exact ⟨_, envelopeClock_expire_nextLevel hstart hd, nextLevel_toNat _ _⟩
  case count =>
    have hd : q.envelopeDivider ≠ 0#4 := mt (eq_zero_iff_toNat q.envelopeDivider).mp hpos.ne'
    exact ⟨_, envelopeClock_count hstart hd, toNat_sub_one _ hpos⟩

/-! ## Envelope levels (R184) -/

/-- The channel with its envelope at a divider and a level. -/
def withEnvelope (q : Square) (divider level : BitVec 4) : Square :=
  { q with envelopeDivider := divider, envelopeDecay := level }

theorem eq_withEnvelope {q : Square} (h : q.envelopeDivider = q.volume) :
    q = withEnvelope q q.volume q.envelopeDecay := by
  rw [← h]
  rfl

theorem envelopeClock_withEnvelope_zero {q : Square} (hstart : q.envelopeStart = false) (level : BitVec 4) :
    envelopeClock (withEnvelope q 0#4 level) = withEnvelope q q.volume (nextLevel q.lengthHalt level) :=
  envelopeClock_expire_nextLevel hstart rfl

theorem envelopeClock_withEnvelope_pos {q : Square} (hstart : q.envelopeStart = false) {divider : BitVec 4}
    (hpos : 0 < divider.toNat) (level : BitVec 4) :
    envelopeClock (withEnvelope q divider level) = withEnvelope q (divider - 1#4) level :=
  envelopeClock_count hstart (mt (eq_zero_iff_toNat divider).mp hpos.ne')

/-- Down to 0 the divider only counts. -/
theorem envelopeClock_iterate_count {q : Square} (hstart : q.envelopeStart = false) (divider level : BitVec 4) {k : Nat}
    (hk : k ≤ divider.toNat) :
    ∃ left : BitVec 4, left.toNat = divider.toNat - k ∧
      envelopeClock^[k] (withEnvelope q divider level) = withEnvelope q left level := by
  induction k with
  | zero => exact ⟨divider, rfl, rfl⟩
  | succ k ih =>
    obtain ⟨left, hleft, hiter⟩ := ih (by omega)
    have hpos : 0 < left.toNat := by omega
    refine ⟨left - 1#4, ?_, ?_⟩
    · rw [toNat_sub_one left hpos]
      omega
    · rw [Function.iterate_succ_apply', hiter, envelopeClock_withEnvelope_pos hstart hpos]

/-- A level lasts V + 1 clocks: after them the divider is just reloaded again, one level on. -/
theorem envelopeClock_iterate_level {q : Square} (hstart : q.envelopeStart = false) (level : BitVec 4) :
    envelopeClock^[q.volume.toNat + 1] (withEnvelope q q.volume level) =
      withEnvelope q q.volume (nextLevel q.lengthHalt level) := by
  obtain ⟨left, hleft, hiter⟩ := envelopeClock_iterate_count hstart q.volume level (Nat.le_refl _)
  obtain rfl : left = 0#4 := (eq_zero_iff_toNat left).mpr (hleft.trans (Nat.sub_self _))
  rw [Function.iterate_succ_apply', hiter, envelopeClock_withEnvelope_zero hstart]

/-- m levels on. -/
theorem envelopeClock_iterate_levels {q : Square} (hstart : q.envelopeStart = false) (level : BitVec 4) (m : Nat) :
    envelopeClock^[m * (q.volume.toNat + 1)] (withEnvelope q q.volume level) =
      withEnvelope q q.volume ((nextLevel q.lengthHalt)^[m] level) := by
  induction m with
  | zero => rw [Nat.zero_mul, Function.iterate_zero_apply, Function.iterate_zero_apply]
  | succ m ih =>
    rw [Nat.succ_mul, Nat.add_comm, Function.iterate_add_apply, ih, envelopeClock_iterate_level hstart,
      Function.iterate_succ_apply']

/-- The level after n clocks is the one n / (V + 1) levels on. -/
theorem envelopeClock_iterate_decay {q : Square} (hstart : q.envelopeStart = false)
    (hdivider : q.envelopeDivider = q.volume) (n : Nat) :
    (envelopeClock^[n] q).envelopeDecay =
      (nextLevel q.lengthHalt)^[n / (q.volume.toNat + 1)] q.envelopeDecay := by
  have hrest : n % (q.volume.toNat + 1) ≤ q.volume.toNat := Nat.le_of_lt_succ (Nat.mod_lt n (Nat.succ_pos _))
  obtain ⟨left, -, hiter⟩ := envelopeClock_iterate_count hstart q.volume
    ((nextLevel q.lengthHalt)^[n / (q.volume.toNat + 1)] q.envelopeDecay) hrest
  have hclocks : envelopeClock^[n] q = withEnvelope q left _ :=
    calc envelopeClock^[n] q
        _ = envelopeClock^[n % (q.volume.toNat + 1) + n / (q.volume.toNat + 1) * (q.volume.toNat + 1)]
              (withEnvelope q q.volume q.envelopeDecay) := by rw [Nat.mod_add_div', ← eq_withEnvelope hdivider]
        _ = withEnvelope q left _ := by
          rw [Function.iterate_add_apply, envelopeClock_iterate_levels hstart, hiter]
  rw [hclocks]
  rfl

/-- Down to 0 the level goes down by one at each step, whatever the loop flag. -/
theorem nextLevel_iterate_toNat (loop : Bool) (level : BitVec 4) {m : Nat} (hm : m ≤ level.toNat) :
    ((nextLevel loop)^[m] level).toNat = level.toNat - m := by
  induction m with
  | zero => rfl
  | succ m ih =>
    have hlevel := ih (by omega)
    have hpos : ((nextLevel loop)^[m] level).toNat > 0 := by omega
    rw [Function.iterate_succ_apply', nextLevel_toNat, if_pos hpos, hlevel]
    omega

/-- Without the loop flag the level 0 stays. -/
theorem nextLevel_false_iterate_toNat (level : BitVec 4) (m : Nat) :
    ((nextLevel false)^[m] level).toNat = level.toNat - m := by
  induction m with
  | zero => rfl
  | succ m ih =>
    rw [Function.iterate_succ_apply', nextLevel_toNat, ih]
    split
    · omega
    · simp only [Bool.false_eq_true, if_false]
      omega

/-- Settles O41: the level after n clocks is n / (V + 1) levels on (`envelopeClock_iterate_decay`), and 16 levels on
from 15 is 15 again. -/
theorem envelopeLoopCycle : Obligations.EnvelopeLoopCycle := by
  unfold Obligations.EnvelopeLoopCycle
  intro q hstart hloop hdecay hdivider
  refine ⟨fun n hn => ?level, ?cycle⟩
  case level =>
    have hlevel : n / (q.volume.toNat + 1) ≤ 15 := Nat.le_of_lt_succ (Nat.div_lt_of_lt_mul (by rwa [Nat.mul_comm]))
    rw [envelopeClock_iterate_decay hstart hdivider, hdecay]
    exact nextLevel_iterate_toNat q.lengthHalt 15 hlevel
  case cycle =>
    have hback : (nextLevel q.lengthHalt)^[16] q.envelopeDecay = q.envelopeDecay := by
      rw [hloop, hdecay]
      rfl
    calc envelopeClock^[16 * (q.volume.toNat + 1)] q
      _ = envelopeClock^[16 * (q.volume.toNat + 1)] (withEnvelope q q.volume q.envelopeDecay) := by
        rw [← eq_withEnvelope hdivider]
      _ = withEnvelope q q.volume q.envelopeDecay := by rw [envelopeClock_iterate_levels hstart, hback]
      _ = q := (eq_withEnvelope hdivider).symm

/-- Settles O42: as with the loop flag, and the level 0 stays (`nextLevel_false_iterate_toNat`). -/
theorem envelopeDecaysToZeroAndStays : Obligations.EnvelopeDecaysToZeroAndStays := by
  unfold Obligations.EnvelopeDecaysToZeroAndStays
  intro q n hstart hloop hdecay hdivider
  rw [envelopeClock_iterate_decay hstart hdivider, hloop, hdecay]
  exact nextLevel_false_iterate_toNat 15 _

/-! ## The sweep target and the mute (R190, R191, R193) -/

theorem sweepTarget_add {q : Square} (h : q.sweepNegate = false) (n : SquareId) :
    sweepTarget n q = q.timerPeriod.toNat + (q.timerPeriod.toNat / 2 ^ q.sweepShift.toNat : Nat) := by
  simp [sweepTarget, h, Nat.shiftRight_eq_div_pow]

theorem sweepTarget_sub {q : Square} (h : q.sweepNegate = true) (n : SquareId) :
    sweepTarget n q =
      q.timerPeriod.toNat - (q.timerPeriod.toNat / 2 ^ q.sweepShift.toNat : Nat) - negateOffset n := by
  simp [sweepTarget, h, Nat.shiftRight_eq_div_pow]

theorem negateOffset_bounds (n : SquareId) : 0 ≤ negateOffset n ∧ negateOffset n ≤ 1 := by cases n <;> decide

theorem sweepTarget_bounds (n : SquareId) (q : Square) : -1 ≤ sweepTarget n q ∧ sweepTarget n q ≤ 4094 := by
  have hperiod := q.timerPeriod.isLt
  have hdelta : q.timerPeriod.toNat / 2 ^ q.sweepShift.toNat ≤ q.timerPeriod.toNat := Nat.div_le_self _ _
  have hoffset := negateOffset_bounds n
  cases h : q.sweepNegate with
  | false =>
    rw [sweepTarget_add h]
    generalize q.timerPeriod.toNat / _ = delta at hdelta ⊢
    omega
  | true =>
    rw [sweepTarget_sub h]
    generalize q.timerPeriod.toNat / _ = delta at hdelta ⊢
    omega

theorem sweepMute_eq_true (n : SquareId) (q : Square) :
    sweepMute n q = true ↔ sweepTarget n q < 0 ∨ sweepTarget n q > 0x7FF := by
  simp [sweepMute]

theorem sweepMute_eq_false (n : SquareId) (q : Square) :
    sweepMute n q = false ↔ 0 ≤ sweepTarget n q ∧ sweepTarget n q ≤ 0x7FF := by
  rw [← Bool.not_eq_true, sweepMute_eq_true]
  omega

/-- Settles O43: the target's two forms (`sweepTarget_add`, `sweepTarget_sub`) and its bounds. -/
theorem sweepTargetAndMute : Obligations.SweepTargetAndMute := by
  unfold Obligations.SweepTargetAndMute
  refine fun q => ⟨fun n => ?_, sweepTarget_add, fun h => ⟨sweepTarget_sub h .one, ?_⟩⟩
  · obtain ⟨hlow, hhigh⟩ := sweepTarget_bounds n q
    exact ⟨hlow, hhigh, sweepMute_eq_true n q⟩
  · exact (sweepTarget_sub h .two).trans (sub_zero _)

/-- R193: with negate and a positive shift the target is below 0 for Square1 at period 0 alone. -/
theorem sweepMute_negate_shift {q : Square} (hshift : q.sweepShift ≠ 0) (hnegate : q.sweepNegate = true) :
    (sweepMute .one q = true ↔ q.timerPeriod = 0) ∧ sweepMute .two q = false := by
  have hperiod := q.timerPeriod.isLt
  have hpos : q.sweepShift.toNat ≠ 0 := mt (eq_zero_iff_toNat q.sweepShift).mpr hshift
  have hhalf : q.timerPeriod.toNat / 2 ^ q.sweepShift.toNat ≤ q.timerPeriod.toNat / 2 := by
    have hpow : 2 ≤ 2 ^ q.sweepShift.toNat := Nat.le_self_pow hpos 2
    exact Nat.div_le_div_left hpow (by decide)
  have hzero : q.timerPeriod = 0 ↔ q.timerPeriod.toNat = 0 := eq_zero_iff_toNat _
  rw [sweepMute_eq_true, sweepMute_eq_false, hzero, sweepTarget_sub hnegate, sweepTarget_sub hnegate]
  simp only [negateOffset]
  generalize q.timerPeriod.toNat / 2 ^ q.sweepShift.toNat = delta at hhalf ⊢
  omega

/-- R193: with shift 0 the target is the double period, or 0 or below. -/
theorem sweepMute_shift_zero {q : Square} (hshift : q.sweepShift = 0) :
    (q.sweepNegate = false → ∀ n, (sweepMute n q = true ↔ 0x400 ≤ q.timerPeriod.toNat)) ∧
    (q.sweepNegate = true → sweepMute .one q = true ∧ sweepMute .two q = false) := by
  have hdelta : q.timerPeriod.toNat / 2 ^ q.sweepShift.toNat = q.timerPeriod.toNat := by
    rw [hshift]
    exact Nat.div_one _
  refine ⟨fun hnegate n => ?_, fun hnegate => ?_⟩
  · rw [sweepMute_eq_true, sweepTarget_add hnegate, hdelta]
    omega
  · rw [sweepMute_eq_true, sweepMute_eq_false, sweepTarget_sub hnegate, sweepTarget_sub hnegate, hdelta]
    simp [negateOffset]

/-! ## The sweep clock (R192) -/

theorem sweepUpdates_eq_true (n : SquareId) (q : Square) :
    sweepUpdates n q = true ↔
      q.sweepDivider.toNat = 0 ∧ q.sweepEnabled = true ∧ q.sweepShift.toNat > 0 ∧ sweepMute n q = false := by
  simp [sweepUpdates, eq_zero_iff_toNat, Nat.pos_iff_ne_zero, and_assoc]

theorem sweepReloads_eq_true (q : Square) :
    sweepReloads q = true ↔ q.sweepDivider.toNat = 0 ∨ q.sweepReload = true := by
  simp [sweepReloads, eq_zero_iff_toNat]

/-- A target of an unmuted channel is a period as it stands. -/
theorem toNat_ofInt_sweepTarget {n : SquareId} {q : Square} (h : sweepMute n q = false) :
    ((BitVec.ofInt 11 (sweepTarget n q)).toNat : Int) = sweepTarget n q := by
  obtain ⟨hlow, hhigh⟩ := (sweepMute_eq_false n q).mp h
  rw [BitVec.toNat_ofInt, Int.toNat_of_nonneg (Int.emod_nonneg _ (by decide)), Int.emod_eq_of_lt hlow (by omega)]

/-- Settles O44: the mute at shift 0 and at a positive shift, no update at shift 0, and the target of an update, which
is unmuted. -/
theorem sweepCornerCases : Obligations.SweepCornerCases := by
  unfold Obligations.SweepCornerCases
  refine fun q => ⟨fun hshift => (sweepMute_shift_zero hshift).1, fun hshift => (sweepMute_shift_zero hshift).2,
    sweepMute_negate_shift, fun hshift n => ?still, fun n => ?update⟩
  case still =>
    have hidle : sweepUpdates n q = false := by simp [sweepUpdates, hshift]
    rw [sweepClock_timerPeriod, hidle]
    rfl
  case update =>
    rw [sweepClock_timerPeriod]
    cases hupdate : sweepUpdates n q with
    | false => exact .inl rfl
    | true =>
      obtain ⟨-, -, -, hmute⟩ := (sweepUpdates_eq_true n q).mp hupdate
      exact .inr ⟨toNat_ofInt_sweepTarget hmute, (sweepMute_eq_false n q).mp hmute⟩

theorem sweepClock_divider_toNat (n : SquareId) (q : Square) :
    (sweepClock n q).sweepDivider.toNat =
      if q.sweepDivider.toNat = 0 ∨ q.sweepReload = true then q.sweepPeriod.toNat else q.sweepDivider.toNat - 1 := by
  rw [sweepClock_sweepDivider]
  by_cases hreload : q.sweepDivider.toNat = 0 ∨ q.sweepReload = true
  · rw [if_pos ((sweepReloads_eq_true q).mpr hreload), if_pos hreload]
  · have hpos : 0 < q.sweepDivider.toNat := Nat.pos_of_ne_zero (mt Or.inl hreload)
    rw [if_neg (mt (sweepReloads_eq_true q).mp hreload), if_neg hreload, toNat_sub_one _ hpos]

theorem sweepClock_period_toNat (n : SquareId) (q : Square) :
    ((sweepClock n q).timerPeriod.toNat : Int) =
      if q.sweepDivider.toNat = 0 ∧ q.sweepEnabled = true ∧ q.sweepShift.toNat > 0 ∧ sweepMute n q = false
      then sweepTarget n q else q.timerPeriod.toNat := by
  rw [sweepClock_timerPeriod]
  by_cases hupdate : sweepUpdates n q = true
  · have hcond := (sweepUpdates_eq_true n q).mp hupdate
    have ⟨_, _, _, hmute⟩ := hcond
    rw [if_pos hupdate, if_pos hcond, toNat_ofInt_sweepTarget hmute]
  · rw [if_neg hupdate, if_neg (mt (sweepUpdates_eq_true n q).mpr hupdate)]

/-- Settles O45: the new period and divider in numbers; the flag is clear after every clock
(`sweepClock_sweepReload`). -/
theorem sweepClockRule : Obligations.SweepClockRule := by
  unfold Obligations.SweepClockRule
  refine fun n q => ⟨_, _, _, rfl, sweepClock_period_toNat n q, sweepClock_divider_toNat n q, ?_⟩
  simp only [← sweepReloads_eq_true]

theorem sweepClock_iterate_sweepReload {n : SquareId} {q : Square} (h : q.sweepReload = false) (k : Nat) :
    ((sweepClock n)^[k] q).sweepReload = false := by
  cases k with
  | zero => exact h
  | succ k => rw [Function.iterate_succ_apply', sweepClock_sweepReload]

theorem sweepClock_iterate_sweepPeriod (n : SquareId) (q : Square) (k : Nat) :
    ((sweepClock n)^[k] q).sweepPeriod = q.sweepPeriod := by
  induction k with
  | zero => rfl
  | succ k ih => rw [Function.iterate_succ_apply', ← ih]; rfl

/-- Settles O46, by induction on the number of clocks; the clock after the divider's 0 reloads it. -/
theorem sweepDividerCycle : Obligations.SweepDividerCycle := by
  unfold Obligations.SweepDividerCycle
  intro n q hreload hdivider
  have hcount : ∀ k, k ≤ q.sweepPeriod.toNat →
      ((sweepClock n)^[k] q).sweepDivider.toNat = q.sweepPeriod.toNat - k := by
    intro k hk
    induction k with
    | zero => exact congrArg BitVec.toNat hdivider
    | succ k ih =>
      have hbefore := ih (by omega)
      rw [Function.iterate_succ_apply', sweepClock_divider_toNat, sweepClock_iterate_sweepReload hreload, if_neg,
        hbefore]
      · omega
      · simp only [Bool.false_eq_true, or_false]
        omega
  refine ⟨hcount, BitVec.eq_of_toNat_eq ?_⟩
  have hzero : ((sweepClock n)^[q.sweepPeriod.toNat] q).sweepDivider.toNat = 0 :=
    (hcount _ (Nat.le_refl _)).trans (Nat.sub_self _)
  rw [Function.iterate_succ_apply', sweepClock_divider_toNat, if_pos (.inl hzero), sweepClock_iterate_sweepPeriod]

/-! ## The linear counter (R202, R203) -/

theorem linearClock_reload {t : Triangle} (h : t.linearReload = true) :
    linearClock t = { t with linearCounter := t.linearReloadValue, linearReload := t.controlFlag } := by
  cases hc : t.controlFlag <;> simp [linearClock, h, hc]

/-- With the control flag the reload flag stays set. -/
theorem linearClock_held {t : Triangle} (hreload : t.linearReload = true) (hcontrol : t.controlFlag = true) :
    linearClock t = { t with linearCounter := t.linearReloadValue } := by
  rw [linearClock_reload hreload, hcontrol, ← hreload]

theorem linearClock_count {t : Triangle} (h : t.linearReload = false) :
    (linearClock t).linearCounter.toNat = t.linearCounter.toNat - 1 ∧ (linearClock t).linearReload = false := by
  refine ⟨?_, by simp [linearClock, h]⟩
  by_cases hzero : t.linearCounter = 0#7
  · simp [linearClock, h, hzero]
  · have hpos : 0 < t.linearCounter.toNat := Nat.pos_of_ne_zero (mt (eq_zero_iff_toNat t.linearCounter).mpr hzero)
    simp [linearClock, h, hzero, toNat_sub_one _ hpos]

/-- Settles O47, by induction on the clocks after the first, which loads the counter. -/
theorem linearCounterCounts : Obligations.LinearCounterCounts := by
  unfold Obligations.LinearCounterCounts
  intro t k hreload
  refine ⟨fun hcontrol => ?held, fun hcontrol => ?counts⟩
  case held =>
    induction k with
    | zero => exact linearClock_held hreload hcontrol
    | succ k ih =>
      rw [Function.iterate_succ_apply', ih]
      exact linearClock_held (t := { t with linearCounter := t.linearReloadValue }) hreload hcontrol
  case counts =>
    induction k with
    | zero =>
      rw [Function.iterate_one, linearClock_reload hreload]
      exact ⟨rfl, hcontrol⟩
    | succ k ih =>
      obtain ⟨hcounter, hflag⟩ := ih
      obtain ⟨hnext, hnextFlag⟩ := linearClock_count hflag
      rw [Function.iterate_succ_apply']
      exact ⟨by rw [hnext, hcounter, Nat.sub_sub], hnextFlag⟩

/-! ## The order of the clocks of one step (R224) -/

/-- The envelope unit does not see what a half-frame clock writes. -/
theorem envelopeClock_of_halfFrame_fields (q : Square) (counter : BitVec 8) (period : Period) (reload : Bool)
    (divider : BitVec 3) :
    envelopeClock { q with
      lengthCounter := counter, timerPeriod := period, sweepReload := reload, sweepDivider := divider } =
      { envelopeClock q with
        lengthCounter := counter, timerPeriod := period, sweepReload := reload, sweepDivider := divider } := by
  unfold envelopeClock
  simp only
  split_ifs <;> rfl

/-- The length counter and the sweep unit do not see what the envelope unit writes. -/
theorem halfFrame_square_envelopeClock (n : SquareId) (q : Square) :
    sweepClock n (squareLengthClock (envelopeClock q)) = envelopeClock (sweepClock n (squareLengthClock q)) := by
  obtain ⟨start, divider, decay, henvelope⟩ := envelopeClock_frame q
  have hright := envelopeClock_of_halfFrame_fields q (squareLengthClock q).lengthCounter
    (sweepClock n (squareLengthClock q)).timerPeriod (sweepClock n (squareLengthClock q)).sweepReload
    (sweepClock n (squareLengthClock q)).sweepDivider
  refine Eq.trans ?_ hright.symm
  rw [henvelope]
  rfl

theorem halfFrame_quarterFrame (s : State) : halfFrame (quarterFrame s) = quarterFrame (halfFrame s) := by
  simp only [halfFrame, quarterFrame, halfFrame_square_envelopeClock]
  rfl

/-- Settles O35: no unit reads what another unit of the same step writes. -/
theorem frameClockOrderIsUnobservable : Obligations.FrameClockOrderIsUnobservable := by
  unfold Obligations.FrameClockOrderIsUnobservable
  exact ⟨halfFrame_quarterFrame, fun _ _ => rfl⟩

end Sys2Proof.Machine
end

section
/-!
PROOFS. TICK on the channels (42_tick_and_timers.md): the timers it clocks (R151, R154, R155), what it leaves unchanged
(R150, R67), and the period of each waveform (R157).
-/

namespace Sys2Proof.Machine

/-! ## What one TICK does to a channel -/

theorem timerStep_square (s : State) (n : SquareId) :
    (timerStep s).square n = if s.apu.apuParity = 1#1 then squareTimerClock (s.square n) else s.square n := by
  cases n with
  | one => exact timerStep_sq1 s
  | two => exact timerStep_sq2 s

/-- After the timer stage a TICK does to a square channel what a frame tick does. -/
theorem tickCycle_square_kept (s : State) (n : SquareId) :
    SquareKept ((timerStep s).square n) ((tickCycle s).square n) := by
  obtain ⟨hsq1, hsq2, -⟩ := frameTick_kept (timerStep s)
  cases n with
  | one => exact hsq1
  | two => exact hsq2

theorem tickCycle_square_kept_odd {s : State} (h : s.apu.apuParity = 1#1) (n : SquareId) :
    SquareKept (squareTimerClock (s.square n)) ((tickCycle s).square n) := by
  have hkept := tickCycle_square_kept s n
  rwa [timerStep_square, if_pos h] at hkept

theorem tickCycle_square_kept_even {s : State} (h : s.apu.apuParity ≠ 1#1) (n : SquareId) :
    SquareKept (s.square n) ((tickCycle s).square n) := by
  have hkept := tickCycle_square_kept s n
  rwa [timerStep_square, if_neg h] at hkept

theorem tickCycle_tri_kept (s : State) : TriangleKept (triangleTimerClock s.tri) (tickCycle s).tri := by
  obtain ⟨-, -, htri⟩ := frameTick_kept (timerStep s)
  rwa [timerStep_tri] at htri

theorem sampleStep_apu (s : State) :
    (sampleStep s).apu =
      { s.apu with sampleCounter := (sampleSchedule s.config.samplePeriod s.apu.sampleCounter).1 } := rfl

theorem tickCycle_apu (s : State) :
    (tickCycle s).apu =
      { s.apu with
        apuParity := 1#1 - s.apu.apuParity
        sampleCounter := (sampleSchedule s.config.samplePeriod s.apu.sampleCounter).1 } := by
  rw [tickCycle, sampleStep_apu, frameTick_apu, frameTick_config, timerStep_apu, timerStep_config]

theorem tickCycle_fs (s : State) : (tickCycle s).fs = (frameTick (timerStep s)).fs := sampleStep_fs _

/-! ## The timers (R151, R154, R155) -/

/-- Settles O29: the frame tick and the sample stage keep what the timer stage has written. -/
theorem tickClocksTheTimers : Obligations.TickClocksTheTimers := by
  unfold Obligations.TickClocksTheTimers
  intro s
  have htri := tickCycle_tri_kept s
  refine ⟨tickCycle s, exec_tick s, ?parity, ?tri, fun hodd => ?odd, fun heven => ?even⟩
  case parity =>
    have hall : ∀ p : BitVec 1, (1#1 - p).toNat = 1 - p.toNat := by decide
    rw [tickCycle_apu]
    exact hall _
  case tri => exact Prod.ext htri.timerCounter htri.sequencePosition
  case odd =>
    have hsq1 := tickCycle_square_kept_odd hodd .one
    have hsq2 := tickCycle_square_kept_odd hodd .two
    exact ⟨Prod.ext hsq1.timerCounter hsq1.sequencePosition, Prod.ext hsq2.timerCounter hsq2.sequencePosition⟩
  case even =>
    have hnot : s.apu.apuParity ≠ 1#1 := by
      rw [heven]
      decide
    have hsq1 := tickCycle_square_kept_even hnot .one
    have hsq2 := tickCycle_square_kept_even hnot .two
    exact ⟨hsq1.timerCounter, hsq1.sequencePosition, hsq2.timerCounter, hsq2.sequencePosition⟩

/-! ## The frame of a TICK -/

/-- The settings of a square channel, which only register writes change (R24, R26 to R29, R36 to R39). -/
structure SettingsKept (q r : Square) : Prop where
  enabled : r.enabled = q.enabled
  lengthHalt : r.lengthHalt = q.lengthHalt
  constantVolume : r.constantVolume = q.constantVolume
  volume : r.volume = q.volume
  duty : r.duty = q.duty
  sweepEnabled : r.sweepEnabled = q.sweepEnabled
  sweepPeriod : r.sweepPeriod = q.sweepPeriod
  sweepNegate : r.sweepNegate = q.sweepNegate
  sweepShift : r.sweepShift = q.sweepShift

theorem SquareKept.settings {q r : Square} (h : SquareKept q r) : SettingsKept q r :=
  ⟨h.enabled, h.lengthHalt, h.constantVolume, h.volume, h.duty, h.sweepEnabled, h.sweepPeriod, h.sweepNegate,
    h.sweepShift⟩

/-- A TICK changes no setting of a square channel: the timer stage writes the timer alone. -/
theorem tickCycle_settingsKept (s : State) (n : SquareId) : SettingsKept (s.square n) ((tickCycle s).square n) := by
  by_cases hparity : s.apu.apuParity = 1#1
  · have h := (tickCycle_square_kept_odd hparity n).settings
    exact ⟨h.enabled, h.lengthHalt, h.constantVolume, h.volume, h.duty, h.sweepEnabled, h.sweepPeriod, h.sweepNegate,
      h.sweepShift⟩
  · exact (tickCycle_square_kept_even hparity n).settings

/-- Where the sample schedule fires a TICK hands back the amplitude of the state it leaves, and elsewhere nothing. -/
theorem tickCycle_outputs (s : State) :
    (tickCycle s).outputs =
      if (sampleSchedule s.config.samplePeriod s.apu.sampleCounter).2
      then s.outputs ++ [.emitted (mix (tickCycle s))] else s.outputs := by
  have hmix : mix (tickCycle s) = mix (frameTick (timerStep s)) := mix_sampleStep _
  have houtputs : (frameTick (timerStep s)).outputs = s.outputs := (frameTick_outputs _).trans (timerStep_outputs s)
  rw [hmix, ← houtputs, tickCycle, sampleStep, frameTick_config, timerStep_config, frameTick_apu, timerStep_apu]

theorem busRead_of_ne {a : Addr} (h : a ≠ 0x4015) (s : State) : busRead s a = 0#8 := if_neg h

/-- Settles O30, from what a TICK keeps of each unit. -/
theorem tickFrame : Obligations.TickFrame := by
  unfold Obligations.TickFrame
  intro s
  have htri := tickCycle_tri_kept s
  have hfs := frameTick_fs_kept (timerStep s)
  rw [timerStep_fs] at hfs
  obtain ⟨hmode, hinhibit⟩ := hfs
  refine ⟨tickCycle s, exec_tick s, tickCycle_config s, tickCycle_pending_eq s, ?outputs, hmode, hinhibit,
    by rw [tickCycle_apu], by rw [tickCycle_apu], fun n => ?square,
    htri.enabled, htri.controlFlag, htri.linearReloadValue, htri.timerPeriod, fun a ha => ?bus⟩
  case outputs =>
    rw [tickCycle_outputs]
    split
    · exact ⟨_, rfl, Nat.le_refl 1⟩
    · exact ⟨[], (List.append_nil _).symm, Nat.zero_le 1⟩
  case square =>
    have h := tickCycle_settingsKept s n
    exact ⟨h.enabled, h.lengthHalt, h.constantVolume, h.volume, h.duty, h.sweepEnabled, h.sweepPeriod, h.sweepNegate,
      h.sweepShift⟩
  case bus => rw [busRead_of_ne ha, busRead_of_ne ha]

/-! ## A timer run on its own (R153, R157) -/

/-- One clock of a timer, on the pair of its counter and its sequence position. -/
def timerRun {w : Nat} (period : Period) (timer : Period × BitVec w) : Period × BitVec w :=
  timerClock period timer.1 timer.2

/-- Down to 0 the counter only counts. -/
theorem timerRun_iterate_count {w : Nat} (period counter : Period) (position : BitVec w) {k : Nat}
    (hk : k ≤ counter.toNat) :
    ∃ left : Period, left.toNat = counter.toNat - k ∧
      (timerRun period)^[k] (counter, position) = (left, position) := by
  induction k with
  | zero => exact ⟨counter, rfl, rfl⟩
  | succ k ih =>
    obtain ⟨left, hleft, hiter⟩ := ih (by omega)
    have hpos : 0 < left.toNat := by omega
    refine ⟨left - 1#11, ?_, ?_⟩
    · rw [toNat_sub_one left hpos]
      omega
    · rw [Function.iterate_succ_apply', hiter]
      exact timerClock_count (mt (eq_zero_iff_toNat left).mp hpos.ne') period position

/-- A counter within its period is back after t + 1 clocks, one position on. -/
theorem timerRun_iterate_period {w : Nat} {period counter : Period} (h : counter.toNat ≤ period.toNat)
    (position : BitVec w) :
    (timerRun period)^[period.toNat + 1] (counter, position) = (counter, position + 1#w) := by
  obtain ⟨left, hleft, hdown⟩ := timerRun_iterate_count period counter position (Nat.le_refl _)
  obtain ⟨again, hagain, hback⟩ := timerRun_iterate_count period period (position + 1#w)
    (k := period.toNat - counter.toNat) (Nat.sub_le _ _)
  obtain rfl : left = 0#11 := (eq_zero_iff_toNat left).mpr (by rw [hleft, Nat.sub_self])
  obtain rfl : again = counter := BitVec.eq_of_toNat_eq (by omega)
  have hreload : timerRun period (0#11, position) = (period, position + 1#w) := timerClock_reload period position
  have hclocks : period.toNat + 1 = (period.toNat - again.toNat) + 1 + again.toNat := by omega
  rw [hclocks, Function.iterate_add_apply, hdown, Function.iterate_succ_apply, hreload, hback]

theorem timerRun_iterate_periods {w : Nat} {period counter : Period} (h : counter.toNat ≤ period.toNat)
    (position : BitVec w) (m : Nat) :
    (timerRun period)^[m * (period.toNat + 1)] (counter, position) = (counter, position + BitVec.ofNat w m) := by
  induction m with
  | zero => simp
  | succ m ih =>
    rw [Nat.succ_mul, Nat.add_comm, Function.iterate_add_apply, ih, timerRun_iterate_period h, BitVec.add_assoc,
      BitVec.ofNat_add]

/-! ## The triangle's waveform (R157) -/

/-- The triangle's timer. -/
def triangleTimer (t : Triangle) : Period × BitVec 5 := (t.timerCounter, t.sequencePosition)

theorem tickCycle_iterate_triangleTimer (s : State) (n : Nat) :
    (tickCycle^[n] s).tri.timerPeriod = s.tri.timerPeriod ∧
    triangleTimer (tickCycle^[n] s).tri = (timerRun s.tri.timerPeriod)^[n] (triangleTimer s.tri) := by
  induction n with
  | zero => exact ⟨rfl, rfl⟩
  | succ n ih =>
    obtain ⟨hperiod, htimer⟩ := ih
    have h := tickCycle_tri_kept (tickCycle^[n] s)
    rw [Function.iterate_succ_apply', Function.iterate_succ_apply', ← htimer, ← hperiod]
    exact ⟨h.timerPeriod, Prod.ext h.timerCounter h.sequencePosition⟩

/-- Settles O31: on each TICK the triangle's timer is clocked once (`tickCycle_iterate_triangleTimer`), and a sequence
has 32 positions. -/
theorem triangleWaveformPeriod : Obligations.TriangleWaveformPeriod := by
  unfold Obligations.TriangleWaveformPeriod
  intro s hcounter
  obtain ⟨-, hone⟩ := tickCycle_iterate_triangleTimer s (s.tri.timerPeriod.toNat + 1)
  obtain ⟨-, hall⟩ := tickCycle_iterate_triangleTimer s (32 * (s.tri.timerPeriod.toNat + 1))
  rw [triangleTimer, triangleTimer, timerRun_iterate_period hcounter, Prod.mk.injEq] at hone
  rw [triangleTimer, triangleTimer, timerRun_iterate_periods hcounter, Prod.mk.injEq] at hall
  obtain ⟨hcounterOne, hpositionOne⟩ := hone
  obtain ⟨hcounterAll, hpositionAll⟩ := hall
  exact ⟨hcounterOne, hpositionOne, hcounterAll, hpositionAll.trans (BitVec.add_zero _)⟩

/-! ## The waveform of a square channel (R157) -/

/-- A square channel's timer. -/
def squareTimer (q : Square) : Period × BitVec 3 := (q.timerCounter, q.sequencePosition)

/-- A TICK clocks a square channel's timer where the parity is 1. -/
theorem tickCycle_squareTimer (s : State) (n : SquareId) :
    squareTimer ((tickCycle s).square n) =
      if s.apu.apuParity = 1#1 then timerRun (s.square n).timerPeriod (squareTimer (s.square n))
      else squareTimer (s.square n) := by
  by_cases hparity : s.apu.apuParity = 1#1
  · have h := tickCycle_square_kept_odd hparity n
    rw [if_pos hparity]
    exact Prod.ext h.timerCounter h.sequencePosition
  · have h := tickCycle_square_kept_even hparity n
    rw [if_neg hparity]
    exact Prod.ext h.timerCounter h.sequencePosition

/-- With the sweep disabled a TICK keeps the period, and the sweep stays disabled. -/
theorem tickCycle_square_timerPeriod {s : State} {n : SquareId} (h : (s.square n).sweepEnabled = false) :
    ((tickCycle s).square n).sweepEnabled = false ∧
      ((tickCycle s).square n).timerPeriod = (s.square n).timerPeriod := by
  refine ⟨(tickCycle_settingsKept s n).sweepEnabled.trans h, ?_⟩
  by_cases hparity : s.apu.apuParity = 1#1
  · exact (tickCycle_square_kept_odd hparity n).timerPeriod h
  · exact (tickCycle_square_kept_even hparity n).timerPeriod h

/-- Of two TICKs exactly one clocks a square channel's timer. -/
theorem twoTicks_squareTimer {s : State} {n : SquareId} (h : (s.square n).sweepEnabled = false) :
    squareTimer ((tickCycle (tickCycle s)).square n) =
      timerRun (s.square n).timerPeriod (squareTimer (s.square n)) := by
  obtain ⟨-, hperiod⟩ := tickCycle_square_timerPeriod h
  have hparity : (tickCycle s).apu.apuParity = 1#1 - s.apu.apuParity := congrArg Global.apuParity (tickCycle_apu s)
  have hbits : ∀ p : BitVec 1, p = 0#1 ∨ p = 1#1 := by decide
  rw [tickCycle_squareTimer, tickCycle_squareTimer, hparity, hperiod]
  obtain hp | hp := hbits s.apu.apuParity
  · rw [hp]
    rfl
  · rw [hp]
    rfl

theorem tickCycle_iterate_squareTimer {s : State} {n : SquareId} (h : (s.square n).sweepEnabled = false) (k : Nat) :
    ((tickCycle^[2 * k] s).square n).sweepEnabled = false ∧
    ((tickCycle^[2 * k] s).square n).timerPeriod = (s.square n).timerPeriod ∧
    squareTimer ((tickCycle^[2 * k] s).square n) =
      (timerRun (s.square n).timerPeriod)^[k] (squareTimer (s.square n)) := by
  induction k with
  | zero => exact ⟨h, rfl, rfl⟩
  | succ k ih =>
    obtain ⟨hsweep, hperiod, htimer⟩ := ih
    obtain ⟨hsweepOne, hperiodOne⟩ := tickCycle_square_timerPeriod hsweep
    obtain ⟨hsweepTwo, hperiodTwo⟩ := tickCycle_square_timerPeriod hsweepOne
    rw [Nat.mul_succ, Function.iterate_succ_apply', Function.iterate_succ_apply', Function.iterate_succ_apply']
    exact ⟨hsweepTwo, hperiodTwo.trans (hperiodOne.trans hperiod),
      (twoTicks_squareTimer hsweep).trans (by rw [hperiod, htimer])⟩

/-- Settles O32: on each pair of TICKs the channel's timer is clocked once (`tickCycle_iterate_squareTimer`), and a
sequence has 8 positions. -/
theorem squareWaveformPeriod : Obligations.SquareWaveformPeriod := by
  unfold Obligations.SquareWaveformPeriod
  intro s n hsweep hcounter
  obtain ⟨-, -, hone⟩ := tickCycle_iterate_squareTimer hsweep ((s.square n).timerPeriod.toNat + 1)
  obtain ⟨-, -, hall⟩ := tickCycle_iterate_squareTimer hsweep (8 * ((s.square n).timerPeriod.toNat + 1))
  rw [squareTimer, squareTimer, timerRun_iterate_period hcounter, Prod.mk.injEq] at hone
  rw [squareTimer, squareTimer, timerRun_iterate_periods hcounter, Prod.mk.injEq, ← Nat.mul_assoc] at hall
  obtain ⟨hcounterOne, hpositionOne⟩ := hone
  obtain ⟨hcounterAll, hpositionAll⟩ := hall
  exact ⟨hcounterOne, hpositionOne, hcounterAll, hpositionAll.trans (BitVec.add_zero _)⟩

end Sys2Proof.Machine
end

section
/-!
PROOFS. The frame sequencer over a whole sequence (44_frame_sequencer.md R220, R221, R227; 70_reset_and_hazards.md
R291): how far it has come after n TICKs, and which clocks it sends on which TICK.
-/

namespace Sys2Proof.Machine

/-! ## The sequencer on one TICK (R220) -/

/-- A TICK takes the step that the sequencer of the state before it is at. -/
theorem frameStepAt_timerStep (s : State) :
    frameStepAt (timerStep s).config (timerStep s).fs.mode (timerStep s).fs.stepIndex =
      frameStepAt s.config s.fs.mode s.fs.stepIndex := by
  rw [timerStep_config, timerStep_fs]

/-- A TICK short of the next offset counts, and clocks no frame unit. -/
theorem tickCycle_of_ne_offset {s : State} {offset : Nat} {action : FrameAction}
    (h : frameStepAt s.config s.fs.mode s.fs.stepIndex = some (offset, action)) (hne : s.fs.cycleCounter + 1 ≠ offset) :
    tickCycle s = sampleStep (countCycle (timerStep s)) := by
  rw [← frameStepAt_timerStep] at h
  rw [tickCycle, frameTick_of_ne_offset h (by rwa [timerStep_fs])]

/-- A TICK that reaches the next offset sends the step's clocks and moves on. -/
theorem tickCycle_of_eq_offset {s : State} {offset : Nat} {action : FrameAction}
    (h : frameStepAt s.config s.fs.mode s.fs.stepIndex = some (offset, action)) (heq : s.fs.cycleCounter + 1 = offset) :
    tickCycle s = sampleStep ((sendClocks action (timerStep s)).setFs
      (advanceStep { s.fs with cycleCounter := offset })) := by
  rw [← frameStepAt_timerStep] at h
  rw [tickCycle, frameTick_of_eq_offset h (by rwa [timerStep_fs]), timerStep_fs]

theorem tickCycle_fs_of_ne_offset {s : State} {offset : Nat} {action : FrameAction}
    (h : frameStepAt s.config s.fs.mode s.fs.stepIndex = some (offset, action)) (hne : s.fs.cycleCounter + 1 ≠ offset) :
    (tickCycle s).fs = { s.fs with cycleCounter := s.fs.cycleCounter + 1 } := by
  rw [tickCycle_of_ne_offset h hne, sampleStep_fs, countCycle, State.setFs_fs, timerStep_fs]

theorem tickCycle_fs_of_eq_offset {s : State} {offset : Nat} {action : FrameAction}
    (h : frameStepAt s.config s.fs.mode s.fs.stepIndex = some (offset, action)) (heq : s.fs.cycleCounter + 1 = offset) :
    (tickCycle s).fs = advanceStep { s.fs with cycleCounter := offset } := by
  rw [tickCycle_of_eq_offset h heq, sampleStep_fs, State.setFs_fs]

theorem tickCycle_iterate_config (s : State) (n : Nat) : (tickCycle^[n] s).config = s.config := by
  induction n with
  | zero => rfl
  | succ n ih => rw [Function.iterate_succ_apply', tickCycle_config, ih]

/-! ## Before the first offset (R291) -/

/-- The two channels differ in their timers at most. -/
def SquareStill (q r : Square) : Prop :=
  ∃ counter position, r = { q with timerCounter := counter, sequencePosition := position }

/-- The two triangles differ in their timers at most. -/
def TriangleStill (t u : Triangle) : Prop :=
  ∃ counter position, u = { t with timerCounter := counter, sequencePosition := position }

theorem timerStep_square_still (s : State) (n : SquareId) : SquareStill (s.square n) ((timerStep s).square n) := by
  obtain ⟨c1, p1, c2, p2, hsq1, hsq2⟩ := timerStep_square_frame s
  cases n with
  | one => exact ⟨c1, p1, hsq1⟩
  | two => exact ⟨c2, p2, hsq2⟩

theorem SquareStill.trans {q r u : Square} (h : SquareStill q r) (g : SquareStill r u) : SquareStill q u := by
  obtain ⟨_, _, rfl⟩ := h
  obtain ⟨counter, position, rfl⟩ := g
  exact ⟨counter, position, rfl⟩

theorem TriangleStill.trans {t u v : Triangle} (h : TriangleStill t u) (g : TriangleStill u v) : TriangleStill t v := by
  obtain ⟨_, _, rfl⟩ := h
  obtain ⟨counter, position, rfl⟩ := g
  exact ⟨counter, position, rfl⟩

theorem tickCycle_still_of_ne_offset {s : State} {offset : Nat} {action : FrameAction}
    (h : frameStepAt s.config s.fs.mode s.fs.stepIndex = some (offset, action)) (hne : s.fs.cycleCounter + 1 ≠ offset) :
    (∀ n, SquareStill (s.square n) ((tickCycle s).square n)) ∧ TriangleStill s.tri (tickCycle s).tri := by
  rw [tickCycle_of_ne_offset h hne]
  refine ⟨fun n => ?_, _, _, timerStep_tri s⟩
  have hstill := timerStep_square_still s n
  cases n <;> exact hstill

/-- Up to the offset of the step a sequence starts at, the sequencer counts and every frame unit stands still. -/
theorem tickCycle_iterate_before_first {s : State} {first : Nat} {action : FrameAction}
    (h : frameStepAt s.config s.fs.mode s.fs.stepIndex = some (first, action)) (hzero : s.fs.cycleCounter = 0) {n : Nat}
    (hn : n < first) :
    (tickCycle^[n] s).fs = { s.fs with cycleCounter := n } ∧
    (∀ q, SquareStill (s.square q) ((tickCycle^[n] s).square q)) ∧
    TriangleStill s.tri (tickCycle^[n] s).tri := by
  induction n with
  | zero =>
    refine ⟨?_, fun q => ⟨_, _, rfl⟩, _, _, rfl⟩
    show s.fs = { s.fs with cycleCounter := 0 }
    rw [← hzero]
  | succ n ih =>
    obtain ⟨hfs, hsquare, htri⟩ := ih (by omega)
    have hstep : frameStepAt (tickCycle^[n] s).config (tickCycle^[n] s).fs.mode (tickCycle^[n] s).fs.stepIndex =
        some (first, action) := by
      rw [tickCycle_iterate_config, hfs]
      exact h
    have hne : (tickCycle^[n] s).fs.cycleCounter + 1 ≠ first := by
      rw [hfs]
      exact hn.ne
    obtain ⟨hsquareStep, htriStep⟩ := tickCycle_still_of_ne_offset hstep hne
    rw [Function.iterate_succ_apply']
    refine ⟨?_, fun q => (hsquare q).trans (hsquareStep q), htri.trans htriStep⟩
    rw [tickCycle_fs_of_ne_offset hstep hne, hfs]

/-- Settles O36: `tickCycle_iterate_before_first` at the step of index 0. -/
theorem noFrameClockBeforeTheFirstOffset : Obligations.NoFrameClockBeforeTheFirstOffset := by
  unfold Obligations.NoFrameClockBeforeTheFirstOffset
  intro s offsets actions steps first n htables hindex hcounter hfirst hn
  obtain ⟨rfl, -, -⟩ := modeTables_eq htables
  obtain ⟨offset, action, hstep⟩ := frameStepAt_isSome (c := s.config) (m := s.fs.mode) (index := s.fs.stepIndex)
    (by rw [hindex]; exact stepCount_pos _)
  obtain ⟨hoffset, -⟩ := frameStepAt_eq_some.mp hstep
  rw [hindex] at hoffset
  obtain rfl : first = offset := Option.some_inj.mp (hfirst.symm.trans hoffset)
  obtain ⟨hfs, hsquare, _, _, htri⟩ := tickCycle_iterate_before_first hstep hcounter hn
  refine ⟨hfs, fun q => ?_, ?_⟩
  · obtain ⟨_, _, hq⟩ := hsquare q
    rw [hq]
    exact ⟨rfl, rfl, rfl, rfl, rfl, rfl, rfl⟩
  · rw [htri]
    exact ⟨rfl, rfl, rfl⟩

/-! ## How far a sequence has come after n TICKs (R53, R220) -/

/-- n TICKs after the start of a sequence: the counter is n, and the next step is the first whose offset lies ahead. -/
structure SequenceAt (c : Config) (start : FrameSequencer) (n : Nat) (f : FrameSequencer) : Prop where
  mode : f.mode = start.mode
  inhibit : f.frameIrqInhibit = start.frameIrqInhibit
  counter : f.cycleCounter = n
  ahead : SequencerOk c f
  passed : ∀ i offset, i < f.stepIndex.val → (stepOffsets c f.mode)[i]? = some offset → offset ≤ n

theorem SequenceAt.start {c : Config} {f : FrameSequencer} (h : OffsetsIncrease c f.mode) (hindex : f.stepIndex = 0)
    (hcounter : f.cycleCounter = 0) : SequenceAt c f 0 f where
  mode := rfl
  inhibit := rfl
  counter := hcounter
  ahead := .start h (by rw [hindex]; rfl) hcounter
  passed i _ hi := by
    rw [hindex] at hi
    exact absurd hi (Nat.not_lt_zero i)

/-- One TICK further, short of the last offset. -/
theorem SequenceAt.tick {s : State} {start : FrameSequencer} {n : Nat} (h : SequenceAt s.config start n s.fs)
    (hinc : OffsetsIncrease s.config start.mode) (hn : n + 1 < lastOffset s.config start.mode) :
    SequenceAt s.config start (n + 1) (tickCycle s).fs := by
  have ⟨hmode, hinhibit, hcounter, hahead, hpassed⟩ := h
  rw [← hmode] at hinc hn
  have hnext : SequencerOk s.config (tickCycle s).fs := by
    have hok := SequencerOk.frameTick (s := timerStep s)
    rw [timerStep_config, timerStep_fs] at hok
    exact hok hinc hahead
  obtain ⟨offset, action, hstep, hlt⟩ := hahead.frameStepAt
  obtain ⟨hoffset, -⟩ := frameStepAt_eq_some.mp hstep
  by_cases hdue : s.fs.cycleCounter + 1 = offset
  · have hnotLast : s.fs.stepIndex.val + 1 ≠ stepCount s.fs.mode := fun hlast => by
      have hend := eq_lastOffset hoffset hlast
      omega
    have hindex := lt_stepCount_of_stepOffset hoffset
    have hmoved : (advanceStep { s.fs with cycleCounter := offset }).stepIndex.val = s.fs.stepIndex.val + 1 :=
      (advanceStep_stepIndex_val (f := { s.fs with cycleCounter := offset }) hindex).trans
        (Nat.mod_eq_of_lt (Nat.lt_of_le_of_ne hindex hnotLast))
    rw [tickCycle_fs_of_eq_offset hstep hdue] at hnext ⊢
    refine ⟨by rw [advanceStep_mode]; exact hmode, by rw [advanceStep_frameIrqInhibit]; exact hinhibit, ?_, hnext,
      fun i o hi ho => ?_⟩
    · rw [advanceStep_eq, if_neg hnotLast, ← hcounter, ← hdue]
    · rw [hmoved] at hi
      rw [advanceStep_mode] at ho
      obtain hold | rfl : i < s.fs.stepIndex.val ∨ i = s.fs.stepIndex.val := by omega
      · exact (hpassed i o hold ho).trans (Nat.le_succ n)
      · have heq : o = offset := Option.some_inj.mp (ho.symm.trans hoffset)
        omega
  · rw [tickCycle_fs_of_ne_offset hstep hdue] at hnext ⊢
    exact ⟨hmode, hinhibit, by rw [hcounter], hnext, fun i o hi ho => (hpassed i o hi ho).trans (Nat.le_succ n)⟩

theorem tickCycle_iterate_sequenceAt {s : State} (hinc : OffsetsIncrease s.config s.fs.mode)
    (hindex : s.fs.stepIndex = 0) (hcounter : s.fs.cycleCounter = 0) {n : Nat}
    (hn : n < lastOffset s.config s.fs.mode) :
    SequenceAt s.config s.fs n (tickCycle^[n] s).fs := by
  induction n with
  | zero => exact .start hinc hindex hcounter
  | succ n ih =>
    have h := ih (by omega)
    have hconfig := tickCycle_iterate_config s n
    rw [← hconfig] at h hinc hn
    have hnext := h.tick hinc hn
    rwa [hconfig, ← Function.iterate_succ_apply' tickCycle] at hnext

/-- On the last offset the sequence is back at its start. -/
theorem SequenceAt.wrap {s : State} {start : FrameSequencer} {n : Nat} (h : SequenceAt s.config start n s.fs)
    (hinc : OffsetsIncrease s.config start.mode) (hn : n + 1 = lastOffset s.config start.mode) :
    (tickCycle s).fs = { start with stepIndex := 0, cycleCounter := 0 } := by
  have ⟨hmode, hinhibit, hcounter, hahead, _⟩ := h
  rw [← hmode] at hinc hn
  obtain ⟨offset, action, hstep, hlt⟩ := hahead.frameStepAt
  obtain ⟨hoffset, -⟩ := frameStepAt_eq_some.mp hstep
  have hle := hinc.le_lastOffset hoffset
  have hlast : s.fs.stepIndex.val + 1 = stepCount s.fs.mode := by
    by_contra hnot
    have hbelow := hinc.lt_lastOffset hoffset hnot
    omega
  rw [tickCycle_fs_of_eq_offset hstep (by omega), advanceStep, if_pos hlast, ← hmode, ← hinhibit]

theorem lastOffset_pos {c : Config} {m : FrameMode} (h : OffsetsIncrease c m) : 0 < lastOffset c m :=
  h.pos (stepOffsets_last c m)

theorem tickCycle_iterate_lastOffset {s : State} (hinc : OffsetsIncrease s.config s.fs.mode)
    (hindex : s.fs.stepIndex = 0) (hcounter : s.fs.cycleCounter = 0) :
    (tickCycle^[lastOffset s.config s.fs.mode] s).fs = s.fs := by
  obtain ⟨n, hn⟩ := Nat.exists_eq_add_one.mpr (lastOffset_pos hinc)
  have hconfig := tickCycle_iterate_config s n
  have h := tickCycle_iterate_sequenceAt hinc hindex hcounter (n := n) (by omega)
  rw [← hconfig] at h hinc hn
  have hwrap := h.wrap hinc hn.symm
  rw [← hconfig, hn, Function.iterate_succ_apply', hwrap, ← hindex, ← hcounter]

/-- Where exactly the first k entries of a list meet a condition, k entries meet it. -/
theorem length_filter_of_initial {α : Type} {p : α → Bool} {l : List α} {k : Nat} (hk : k ≤ l.length)
    (h : ∀ i x, l[i]? = some x → (p x = true ↔ i < k)) : (l.filter p).length = k := by
  induction l generalizing k with
  | nil => exact (Nat.le_zero.mp hk).symm
  | cons x xs ih =>
    have hhead : p x = true ↔ 0 < k := h 0 x rfl
    cases k with
    | zero =>
      have hnone : ∀ y ∈ x :: xs, ¬ p y = true := fun y hy hp => by
        obtain ⟨i, hi⟩ := List.mem_iff_getElem?.mp hy
        exact Nat.not_lt_zero i ((h i y hi).mp hp)
      rw [List.filter_eq_nil_iff.mpr hnone, List.length_nil]
    | succ k =>
      have htail : (xs.filter p).length = k :=
        ih (Nat.le_of_succ_le_succ hk) fun i y hy => (h (i + 1) y hy).trans Nat.succ_lt_succ_iff
      rw [List.filter_cons_of_pos (hhead.mpr (Nat.succ_pos k)), List.length_cons, htail]

/-- The step index is the number of offsets passed. -/
theorem SequenceAt.stepIndex_eq {c : Config} {start f : FrameSequencer} {n : Nat} (h : SequenceAt c start n f)
    (hinc : OffsetsIncrease c f.mode) :
    f.stepIndex.val = ((stepOffsets c f.mode).filter (· ≤ n)).length := by
  obtain ⟨-, -, hcounter, ⟨next, hnext, hlt⟩, hpassed⟩ := h
  have hindex := lt_stepCount_of_stepOffset hnext
  refine (length_filter_of_initial (by rw [stepOffsets_length]; exact hindex.le) fun i offset hi => ?_).symm
  rw [decide_eq_true_iff]
  refine ⟨fun hle => ?_, fun hlow => hpassed i offset hlow hi⟩
  by_contra hnot
  obtain heq | hgt := Nat.eq_or_lt_of_le (Nat.le_of_not_lt hnot)
  · subst heq
    have hsame : next = offset := Option.some_inj.mp (hnext.symm.trans hi)
    omega
  · have hfar := hinc.lt hgt hnext hi
    omega

/-! ## The schedule of evenly spaced steps (R227) -/

/-- The step tables of a configuration are the default ones for a quarter frame of `q` cycles. -/
structure EvenTables (c : Config) (q : Nat) : Prop where
  cycles4 : c.frameStepCycles4 = (configAtQuarter q).frameStepCycles4
  cycles5 : c.frameStepCycles5 = (configAtQuarter q).frameStepCycles5
  actions4 : c.frameActions4 = (configAtQuarter q).frameActions4
  actions5 : c.frameActions5 = (configAtQuarter q).frameActions5

theorem EvenTables.stepOffsets {c : Config} {q : Nat} (h : EvenTables c q) (m : FrameMode) :
    stepOffsets c m = stepOffsets (configAtQuarter q) m := by
  cases m with
  | fourStep => exact congrArg Table.entries h.cycles4
  | fiveStep => exact congrArg Table.entries h.cycles5

theorem EvenTables.stepActions {c : Config} {q : Nat} (h : EvenTables c q) (m : FrameMode) :
    stepActions c m = stepActions (configAtQuarter q) m := by
  cases m with
  | fourStep => exact congrArg Table.entries h.actions4
  | fiveStep => exact congrArg Table.entries h.actions5

theorem EvenTables.offsetsIncrease {c : Config} {q : Nat} (h : EvenTables c q) (hq : 0 < q) (m : FrameMode) :
    OffsetsIncrease c m := by
  rw [OffsetsIncrease, h.stepOffsets]
  exact offsetsIncrease_of_wellFormed (configAtQuarter_wellFormed hq) m

theorem EvenTables.lastOffset {c : Config} {q : Nat} (h : EvenTables c q) (m : FrameMode) :
    lastOffset c m = stepCount m * q := by
  rw [Machine.lastOffset, h.stepOffsets]
  cases m <;> rfl

theorem EvenTables.stepOffset {c : Config} {q : Nat} (h : EvenTables c q) {m : FrameMode} {i : Nat}
    (hi : i < stepCount m) : (Machine.stepOffsets c m)[i]? = some ((i + 1) * q) := by
  rw [h.stepOffsets]
  cases m with
  | fourStep =>
    have hcases : i = 0 ∨ i = 1 ∨ i = 2 ∨ i = 3 := by simp only [stepCount] at hi; omega
    obtain rfl | rfl | rfl | rfl := hcases <;> rfl
  | fiveStep =>
    have hcases : i = 0 ∨ i = 1 ∨ i = 2 ∨ i = 3 ∨ i = 4 := by simp only [stepCount] at hi; omega
    obtain rfl | rfl | rfl | rfl | rfl := hcases <;> rfl

/-- Every step sends the quarter-frame clock, and steps 2, 4 and 5 send the half-frame clock (decision D6). -/
theorem EvenTables.stepAction {c : Config} {q : Nat} (h : EvenTables c q) {m : FrameMode} {i : Nat}
    (hi : i < stepCount m) :
    (Machine.stepActions c m)[i]? = some ⟨true, decide (i + 1 = 2 ∨ i + 1 = 4 ∨ i + 1 = 5)⟩ := by
  rw [h.stepActions]
  cases m with
  | fourStep =>
    have hcases : i = 0 ∨ i = 1 ∨ i = 2 ∨ i = 3 := by simp only [stepCount] at hi; omega
    obtain rfl | rfl | rfl | rfl := hcases <;> rfl
  | fiveStep =>
    have hcases : i = 0 ∨ i = 1 ∨ i = 2 ∨ i = 3 ∨ i = 4 := by simp only [stepCount] at hi; omega
    obtain rfl | rfl | rfl | rfl | rfl := hcases <;> rfl

/-- n TICKs after the start the next step is the one at the next multiple of q. -/
theorem SequenceAt.even {c : Config} {q n : Nat} {start f : FrameSequencer} (h : SequenceAt c start n f)
    (heven : EvenTables c q) :
    f.stepIndex.val < stepCount f.mode ∧ f.stepIndex.val * q < n + 1 ∧ n + 1 ≤ (f.stepIndex.val + 1) * q := by
  obtain ⟨-, -, hcounter, ⟨offset, hoffset, hlt⟩, hpassed⟩ := h
  have hindex := lt_stepCount_of_stepOffset hoffset
  have hnext : offset = (f.stepIndex.val + 1) * q := Option.some_inj.mp (hoffset.symm.trans (heven.stepOffset hindex))
  refine ⟨hindex, Nat.lt_succ_of_le ?_, by omega⟩
  cases hi : f.stepIndex.val with
  | zero => rw [Nat.zero_mul]; exact Nat.zero_le n
  | succ i => exact hpassed i _ (by omega) (heven.stepOffset (by omega))

/-- Between two multiples of q there is no third. -/
theorem eq_succ_of_eq_mul {q i j m : Nat} (hlow : i * q < m) (hhigh : m ≤ (i + 1) * q) (h : m = j * q) :
    j = i + 1 := by
  subst h
  have hi : i < j := Nat.lt_of_mul_lt_mul_right hlow
  have hj : j ≤ i + 1 := Nat.le_of_mul_le_mul_right hhigh (Nat.pos_of_ne_zero fun hq => by simp [hq] at hlow)
  omega

theorem sendClocks_quarter (half : Bool) (s : State) :
    sendClocks ⟨true, half⟩ s = quarterFrame (if half then halfFrame s else s) := rfl

/-- The clocks of the TICK that ends a run of `m` TICKs from the start of a sequence (R227). -/
def evenClocks (q m : Nat) (s : State) : State :=
  let halved := if m = 2 * q ∨ m = 4 * q ∨ m = 5 * q then halfFrame s else s
  if q ∣ m then quarterFrame halved else halved

/-- With evenly spaced steps a TICK sends the clocks of its multiple of q, or none. -/
theorem tickCycle_even {s : State} {start : FrameSequencer} {q n : Nat} (h : SequenceAt s.config start n s.fs)
    (heven : EvenTables s.config q) :
    (tickCycle s).sq1 = (evenClocks q (n + 1) (timerStep s)).sq1 ∧
    (tickCycle s).sq2 = (evenClocks q (n + 1) (timerStep s)).sq2 ∧
    (tickCycle s).tri = (evenClocks q (n + 1) (timerStep s)).tri := by
  obtain ⟨hindex, hlow, hhigh⟩ := h.even heven
  have hstep := frameStepAt_eq_some.mpr ⟨heven.stepOffset hindex, heven.stepAction hindex⟩
  have hmultiple {j : Nat} (hj : n + 1 = j * q) : j = s.fs.stepIndex.val + 1 := eq_succ_of_eq_mul hlow hhigh hj
  by_cases hdue : n + 1 = (s.fs.stepIndex.val + 1) * q
  · have hsame (j : Nat) : n + 1 = j * q ↔ s.fs.stepIndex.val + 1 = j :=
      ⟨fun hj => (hmultiple hj).symm, fun hj => by rw [hdue, hj]⟩
    have hclocks : evenClocks q (n + 1) (timerStep s) = sendClocks
        ⟨true, decide (s.fs.stepIndex.val + 1 = 2 ∨ s.fs.stepIndex.val + 1 = 4 ∨ s.fs.stepIndex.val + 1 = 5)⟩
        (timerStep s) := by
      simp only [evenClocks, if_pos (Dvd.intro_left _ hdue.symm), sendClocks_quarter, decide_eq_true_iff, hsame]
    rw [tickCycle_of_eq_offset hstep (by rw [h.counter, hdue]), hclocks]
    exact ⟨rfl, rfl, rfl⟩
  · have hnone (j : Nat) : n + 1 ≠ j * q := fun hj => hdue (by rwa [← hmultiple hj])
    have hdvd : ¬ q ∣ n + 1 := fun ⟨j, hj⟩ => hnone j (by rwa [Nat.mul_comm])
    have hclocks : evenClocks q (n + 1) (timerStep s) = timerStep s := by simp [evenClocks, hnone, hdvd]
    rw [tickCycle_of_ne_offset hstep (by rwa [h.counter]), hclocks]
    exact ⟨rfl, rfl, rfl⟩

/-- Settles O37: the sequence by induction on the TICKs (`tickCycle_iterate_sequenceAt`), its wrap at the last offset,
and the clocks of each TICK of evenly spaced steps (`tickCycle_even`). -/
theorem frameSequenceFollowsItsTable : Obligations.FrameSequenceFollowsItsTable := by
  unfold Obligations.FrameSequenceFollowsItsTable
  refine ⟨?sequence, ?schedule, rfl, rfl⟩
  case sequence =>
    intro s offsets actions steps last htables hwf hindex hcounter hlast
    obtain ⟨rfl, -, -⟩ := modeTables_eq htables
    have hinc := offsetsIncrease_of_wellFormed hwf s.fs.mode
    obtain rfl : lastOffset s.config s.fs.mode = last := by rw [lastOffset, hlast, Option.getD_some]
    refine ⟨fun n hn => ?_, tickCycle_iterate_lastOffset hinc hindex hcounter⟩
    have h := tickCycle_iterate_sequenceAt hinc hindex hcounter hn
    have hindexEq := h.stepIndex_eq (by rwa [h.mode])
    rw [h.mode] at hindexEq
    exact ⟨h.counter, hindexEq⟩
  case schedule =>
    intro s q n hq hcycles4 hcycles5 hactions4 hactions5 hindex hcounter hn
    have heven : EvenTables s.config q := ⟨hcycles4, hcycles5, hactions4, hactions5⟩
    have hlast : n < lastOffset s.config s.fs.mode := by
      rw [heven.lastOffset]
      cases hmode : s.fs.mode with
      | fourStep => rw [hmode] at hn; exact hn
      | fiveStep => rw [hmode] at hn; exact hn
    have h := tickCycle_iterate_sequenceAt (heven.offsetsIncrease hq _) hindex hcounter hlast
    rw [← tickCycle_iterate_config s n] at h heven
    refine ⟨_, _, _, rfl, rfl, rfl, ?_⟩
    rw [Function.iterate_succ_apply']
    exact tickCycle_even h heven

end Sys2Proof.Machine
end

section
/-!
PROOFS. The output side (45_mixer.md): the channel outputs and the mix (R240 to R243), the sample schedule (R245 to
R247), and silence at power-on (70_reset_and_hazards.md R281).
-/

namespace Sys2Proof.Machine

/-! ## The channel outputs (R93, R183, R240, R241) -/

theorem squareAudible_eq_true (n : SquareId) (q : Square) :
    squareAudible n q = true ↔
      q.enabled = true ∧ q.lengthCounter.toNat > 0 ∧ q.timerPeriod.toNat ≥ 8 ∧
        (0 ≤ sweepTarget n q ∧ sweepTarget n q ≤ 0x7FF) := by
  rw [← sweepMute_eq_false]
  simp [squareAudible, and_assoc]

theorem triangleAudible_eq_true (t : Triangle) :
    triangleAudible t = true ↔ t.enabled = true ∧ t.lengthCounter.toNat > 0 ∧ t.linearCounter.toNat > 0 := by
  simp [triangleAudible, and_assoc]

/-- The duty bit as a lookup in the lists of the tables' entries. -/
theorem dutyBit_eq_true (c : Config) (duty : BitVec 2) (position : BitVec 3) :
    dutyBit c duty position = true ↔
      (c.dutyTable.entries[duty.toNat]?).bind (·.entries[position.toNat]?) = some true := by
  rw [Table.getElem?_eq c.dutyTable duty.toNat duty.isLt, Option.bind_some,
    Table.getElem?_eq _ position.toNat position.isLt, Option.some_inj]
  rfl

theorem envelopeVolume_toNat (q : Square) :
    (envelopeVolume q).toNat = if q.constantVolume then q.volume.toNat else q.envelopeDecay.toNat := by
  rw [envelopeVolume]
  split
  · rfl
  · rfl

/-- A square channel sounds where its gate is open and its duty bit is 1. -/
theorem squareOutput_eq (s : State) (n : SquareId) :
    squareOutput s n =
      if squareAudible n (s.square n) = true ∧
        dutyBit s.config (s.square n).duty (s.square n).sequencePosition = true
      then envelopeVolume (s.square n) else 0#4 := by
  rw [ite_and]
  rfl

/-- Settles O48: the gates and the duty bit, in the terms of the tables. -/
theorem channelOutputRules : Obligations.ChannelOutputRules := by
  unfold Obligations.ChannelOutputRules
  refine ⟨fun s n q hq => ?square, fun s => ?triangle⟩
  case square =>
    subst hq
    rw [squareOutput_eq, apply_ite BitVec.toNat, envelopeVolume_toNat]
    simp only [squareAudible_eq_true, dutyBit_eq_true, and_assoc]
    rfl
  case triangle =>
    rw [triangleOutput, apply_ite some]
    simp only [triangleAudible_eq_true, rampLevel, ← Table.getElem?_eq]
    rfl

/-! ## The mix (R242, R243) -/

/-- Settles O49: the mix is the sum of the two entries that `pulseIndex` and `tndIndex` name. -/
theorem mixRule : Obligations.MixRule := by
  unfold Obligations.MixRule
  exact fun s => ⟨_, _, Table.getElem?_eq _ _ (pulseIndex_lt s), Table.getElem?_eq _ _ (tndIndex_lt s), rfl⟩

/-- `a k / (b + 10000 k)` increases with k. -/
theorem mkRat_lt_succ {a b : Nat} (ha : 0 < a) (hb : 0 < b) (k : Nat) :
    mkRat ((a : Int) * (k : Int)) (b + 10000 * k) <
      mkRat ((a : Int) * ((k + 1 : Nat) : Int)) (b + 10000 * (k + 1)) := by
  have ha' : (0 : Rat) < a := Nat.cast_pos.mpr ha
  have hb' : (0 : Rat) < b := Nat.cast_pos.mpr hb
  have hk : (0 : Rat) ≤ k := Nat.cast_nonneg k
  rw [Rat.mkRat_eq_div, Rat.mkRat_eq_div]
  push_cast
  rw [div_lt_div_iff₀ (by positivity) (by positivity)]
  nlinarith [mul_pos ha' hb']

theorem pulseMixEntry_strictMono : StrictMono pulseMixEntry :=
  strictMono_nat_of_lt_succ fun k => mkRat_lt_succ (a := 9552) (b := 812800) (by decide) (by decide) k

theorem tndMixEntry_strictMono : StrictMono tndMixEntry :=
  strictMono_nat_of_lt_succ fun k => mkRat_lt_succ (a := 16367) (b := 2432900) (by decide) (by decide) k

theorem defaultPulseMix_get (k : Nat) (h : k < 31) : defaultPulseMix.get k h = pulseMixEntry k := by
  simp [Table.get, defaultPulseMix]

theorem defaultTndMix_get (k : Nat) (h : k < 203) : defaultTndMix.get k h = tndMixEntry k := by
  simp [Table.get, defaultTndMix]

/-- An increasing sequence from 0 is 0 at 0 alone, and below 0 nowhere. -/
theorem strictMono_eq_zero_iff {f : Nat → Rat} (h : StrictMono f) (hzero : f 0 = 0) (k : Nat) :
    0 ≤ f k ∧ (f k = 0 ↔ k = 0) := by
  refine ⟨?_, ?_⟩
  · rw [← hzero]
    exact h.monotone (Nat.zero_le k)
  · rw [← hzero]
    exact h.injective.eq_iff

theorem pulseIndex_eq_zero (s : State) : pulseIndex s = 0 ↔ squareOutput s .one = 0 ∧ squareOutput s .two = 0 := by
  rw [pulseIndex, Nat.add_eq_zero_iff, ← eq_zero_iff_toNat, ← eq_zero_iff_toNat]
  rfl

theorem tndIndex_eq_zero (s : State) : tndIndex s = 0 ↔ triangleOutput s = 0 := by
  have hzero : triangleOutput s = 0 ↔ (triangleOutput s).toNat = 0 := eq_zero_iff_toNat _
  rw [hzero, tndIndex]
  omega

theorem mix_eq_zero_iff {s : State} (hpulse : s.config.pulseMix = defaultPulseMix)
    (htnd : s.config.tndMix = defaultTndMix) :
    mix s = 0 ↔ squareOutput s .one = 0 ∧ squareOutput s .two = 0 ∧ triangleOutput s = 0 := by
  obtain ⟨hpulseNonneg, hpulseZero⟩ :=
    strictMono_eq_zero_iff pulseMixEntry_strictMono (Rat.zero_mkRat _) (pulseIndex s)
  obtain ⟨htndNonneg, htndZero⟩ := strictMono_eq_zero_iff tndMixEntry_strictMono (Rat.zero_mkRat _) (tndIndex s)
  have hmix : mix s = pulseMixEntry (pulseIndex s) + tndMixEntry (tndIndex s) := by
    simp only [mix, hpulse, htnd, defaultPulseMix_get, defaultTndMix_get]
  rw [hmix, add_eq_zero_iff_of_nonneg hpulseNonneg htndNonneg, hpulseZero, htndZero, pulseIndex_eq_zero,
    tndIndex_eq_zero, and_assoc]

/-- Settles O50: both tables are increasing sequences from 0. -/
theorem defaultMixIsZeroExactlyInSilence : Obligations.DefaultMixIsZeroExactlyInSilence := by
  unfold Obligations.DefaultMixIsZeroExactlyInSilence
  refine ⟨fun k h => ?_, fun k h => ?_, fun s => mix_eq_zero_iff⟩
  · rw [defaultPulseMix_get, defaultPulseMix_get]
    exact pulseMixEntry_strictMono (Nat.lt_succ_self k)
  · rw [defaultTndMix_get, defaultTndMix_get]
    exact tndMixEntry_strictMono (Nat.lt_succ_self k)

/-! ## Silence at power-on (R281) -/

theorem squareOutput_of_disabled {s : State} {n : SquareId} (h : (s.square n).enabled = false) :
    squareOutput s n = 0 := by
  rw [squareOutput_eq, squareAudible, h]
  rfl

theorem triangleOutput_of_disabled {s : State} (h : s.tri.enabled = false) : triangleOutput s = 0 := by
  rw [triangleOutput, triangleAudible, h]
  rfl

theorem powerOn_silent (c : Config) :
    (∀ n, squareOutput (State.powerOn c) n = 0) ∧ triangleOutput (State.powerOn c) = 0 :=
  ⟨fun n => squareOutput_of_disabled (by cases n <;> rfl), triangleOutput_of_disabled rfl⟩

/-- Settles O2: no channel is enabled, and silence mixes to 0 (`mix_eq_zero_iff`). -/
theorem powerOnIsSilent : Obligations.PowerOnIsSilent := by
  unfold Obligations.PowerOnIsSilent
  refine ⟨fun c => ?_, ?_⟩
  · obtain ⟨hsquare, htri⟩ := powerOn_silent c
    have hstatus : statusByte (State.powerOn c) = 0#8 := (eq_zero_iff_toNat _).mpr (statusByte_toNat _)
    exact ⟨(if_pos rfl).trans hstatus, hsquare, htri, rfl, rfl⟩
  · obtain ⟨hsquare, htri⟩ := powerOn_silent defaultConfig
    exact (mix_eq_zero_iff rfl rfl).mpr ⟨hsquare .one, hsquare .two, htri⟩

/-! ## Samples (R245 to R247) -/

/-- Settles O52: a TICK emits the mix of the state it leaves (`tickCycle_outputs`), and a SAMPLE hands that back. -/
theorem emittedAmplitudeIsTheNextSample : Obligations.EmittedAmplitudeIsTheNextSample := by
  unfold Obligations.EmittedAmplitudeIsTheNextSample
  intro s t u htick hsample
  cases htick
  cases hsample
  refine ⟨mix (tickCycle s), rfl, ?_⟩
  rw [tickCycle_outputs]
  split
  · exact .inr rfl
  · exact .inl rfl

theorem tickCycle_of_no_period {s : State} (h : s.config.samplePeriod = none) :
    (tickCycle s).outputs = s.outputs ∧ (tickCycle s).apu.sampleCounter = s.apu.sampleCounter := by
  rw [tickCycle_outputs, tickCycle_apu, h]
  exact ⟨rfl, rfl⟩

/-- Short of the period a TICK counts and emits nothing. -/
theorem tickCycle_of_ne_period {s : State} {p : Nat} (h : s.config.samplePeriod = some p)
    (hne : s.apu.sampleCounter + 1 ≠ p) :
    (tickCycle s).outputs = s.outputs ∧ (tickCycle s).apu.sampleCounter = s.apu.sampleCounter + 1 := by
  have hschedule : sampleSchedule (some p) s.apu.sampleCounter = (s.apu.sampleCounter + 1, false) := if_neg hne
  rw [tickCycle_outputs, tickCycle_apu, h, hschedule]
  exact ⟨rfl, rfl⟩

/-- On the period a TICK emits the mix of the state it leaves and counts from 0 again. -/
theorem tickCycle_of_eq_period {s : State} {p : Nat} (h : s.config.samplePeriod = some p)
    (heq : s.apu.sampleCounter + 1 = p) :
    (tickCycle s).outputs = s.outputs ++ [.emitted (mix (tickCycle s))] ∧
      (tickCycle s).apu.sampleCounter = 0 := by
  have hschedule : sampleSchedule (some p) s.apu.sampleCounter = (0, true) := if_pos heq
  rw [tickCycle_outputs, tickCycle_apu, h, hschedule]
  exact ⟨rfl, rfl⟩

theorem tickCycle_iterate_of_no_period {s : State} (h : s.config.samplePeriod = none) (n : Nat) :
    (tickCycle^[n] s).outputs = s.outputs ∧ (tickCycle^[n] s).apu.sampleCounter = s.apu.sampleCounter := by
  induction n with
  | zero => exact ⟨rfl, rfl⟩
  | succ n ih =>
    obtain ⟨houtputs, hcounter⟩ := ih
    obtain ⟨houtputsTick, hcounterTick⟩ := tickCycle_of_no_period (s := tickCycle^[n] s)
      (by rwa [tickCycle_iterate_config])
    rw [Function.iterate_succ_apply']
    exact ⟨houtputsTick.trans houtputs, hcounterTick.trans hcounter⟩

theorem tickCycle_iterate_before_period {s : State} {p : Nat} (h : s.config.samplePeriod = some p)
    (hzero : s.apu.sampleCounter = 0) {n : Nat} (hn : n < p) :
    (tickCycle^[n] s).outputs = s.outputs ∧ (tickCycle^[n] s).apu.sampleCounter = n := by
  induction n with
  | zero => exact ⟨rfl, hzero⟩
  | succ n ih =>
    obtain ⟨houtputs, hcounter⟩ := ih (by omega)
    obtain ⟨houtputsTick, hcounterTick⟩ := tickCycle_of_ne_period (s := tickCycle^[n] s)
      (by rwa [tickCycle_iterate_config]) (by rw [hcounter]; exact hn.ne)
    rw [Function.iterate_succ_apply']
    exact ⟨houtputsTick.trans houtputs, by rw [hcounterTick, hcounter]⟩

/-- Settles O53: of P TICKs the first P - 1 only count, and the last one is on the period. -/
theorem sampleScheduleFiresEveryPeriod : Obligations.SampleScheduleFiresEveryPeriod := by
  unfold Obligations.SampleScheduleFiresEveryPeriod
  refine ⟨fun s n h => tickCycle_iterate_of_no_period h n, fun s p h hpos hzero => ?_⟩
  refine ⟨fun n => tickCycle_iterate_before_period h hzero, ?_⟩
  obtain ⟨n, rfl⟩ := Nat.exists_eq_add_one.mpr hpos
  obtain ⟨houtputs, hcounter⟩ := tickCycle_iterate_before_period h hzero (Nat.lt_succ_self n)
  have hfire := tickCycle_of_eq_period (s := tickCycle^[n] s) (by rwa [tickCycle_iterate_config]) (by rw [hcounter])
  rwa [houtputs, ← Function.iterate_succ_apply' tickCycle] at hfire

end Sys2Proof.Machine
end

section
/-!
PROOFS. Which operation writes which field (10_state.md R24 to R57): said once for a square channel, for the triangle
and for the rest of the state; and that a length counter rises by its own high-byte write alone (43_frame_units.md
R201).
-/

namespace Sys2Proof.Machine

/-! ## The operations of a square channel -/

/-- The mnemonic of a square channel's control write. -/
def SquareId.ctrlName : SquareId → String
  | .one => "WR_SQ1_CTRL"
  | .two => "WR_SQ2_CTRL"

/-- The mnemonic of a square channel's sweep write. -/
def SquareId.sweepName : SquareId → String
  | .one => "WR_SQ1_SWEEP"
  | .two => "WR_SQ2_SWEEP"

/-- The mnemonic of a square channel's timer-low write. -/
def SquareId.tloName : SquareId → String
  | .one => "WR_SQ1_TLO"
  | .two => "WR_SQ2_TLO"

/-- The mnemonic of a square channel's timer-high write. -/
def SquareId.thiName : SquareId → String
  | .one => "WR_SQ1_THI"
  | .two => "WR_SQ2_THI"

/-! ## Who writes the fields of a square channel (R24 to R41) -/

/-- The fields of square channel `n` that the operation `name` may not write are the same before and after. -/
structure SquareWrites (n : SquareId) (name : String) (q r : Square) : Prop where
  enabled : name ∉ ["WR_STATUS"] → r.enabled = q.enabled
  control : name ∉ [n.ctrlName] →
    r.duty = q.duty ∧ r.lengthHalt = q.lengthHalt ∧ r.constantVolume = q.constantVolume ∧ r.volume = q.volume
  sweep : name ∉ [n.sweepName] →
    r.sweepEnabled = q.sweepEnabled ∧ r.sweepPeriod = q.sweepPeriod ∧ r.sweepNegate = q.sweepNegate ∧
      r.sweepShift = q.sweepShift
  timerPeriod : name ∉ [n.tloName, n.thiName, "WR_FRAME", "TICK"] → r.timerPeriod = q.timerPeriod
  timerCounter : name ∉ ["TICK"] → r.timerCounter = q.timerCounter
  dividers : name ∉ ["WR_FRAME", "TICK"] →
    r.envelopeDivider = q.envelopeDivider ∧ r.envelopeDecay = q.envelopeDecay ∧ r.sweepDivider = q.sweepDivider
  lengthCounter : name ∉ [n.thiName, "WR_STATUS", "WR_FRAME", "TICK"] → r.lengthCounter = q.lengthCounter
  sequencePosition : name ∉ [n.thiName, "TICK"] → r.sequencePosition = q.sequencePosition
  envelopeStart : name ∉ [n.thiName, "WR_FRAME", "TICK"] → r.envelopeStart = q.envelopeStart
  sweepReload : name ∉ [n.sweepName, "WR_FRAME", "TICK"] → r.sweepReload = q.sweepReload

theorem SquareWrites.refl (n : SquareId) (name : String) (q : Square) : SquareWrites n name q q := by
  constructor <;> simp

theorem writeSquareCtrl_writes (n : SquareId) (duty : BitVec 2) (halt constant : Bool) (volume : BitVec 4)
    (q : Square) : SquareWrites n n.ctrlName q (writeSquareCtrl duty halt constant volume q) := by
  constructor <;> simp [writeSquareCtrl]

theorem writeSquareSweep_writes (n : SquareId) (enabled : Bool) (period : BitVec 3) (negate : Bool) (shift : BitVec 3)
    (q : Square) : SquareWrites n n.sweepName q (writeSquareSweep enabled period negate shift q) := by
  constructor <;> simp [writeSquareSweep]

theorem writeSquareLow_writes (n : SquareId) (low : Byte) (q : Square) :
    SquareWrites n n.tloName q (writeSquareLow low q) := by
  constructor <;> simp [writeSquareLow]

theorem writeSquareHigh_writes (n : SquareId) (c : Config) (index : BitVec 5) (high : BitVec 3) (q : Square) :
    SquareWrites n n.thiName q (writeSquareHigh c index high q) := by
  constructor <;> simp [writeSquareHigh]

theorem enableSquare_writes (n : SquareId) (enabled : Bool) (q : Square) :
    SquareWrites n "WR_STATUS" q (enableSquare enabled q) := by
  constructor <;> simp [enableSquare]

/-- The frame clocks of a 5-step $4017 write. -/
theorem SquareKept.writes {q r : Square} (h : SquareKept q r) (n : SquareId) : SquareWrites n "WR_FRAME" q r where
  enabled _ := h.enabled
  control _ := ⟨h.duty, h.lengthHalt, h.constantVolume, h.volume⟩
  sweep _ := ⟨h.sweepEnabled, h.sweepPeriod, h.sweepNegate, h.sweepShift⟩
  timerPeriod hname := by simp at hname
  timerCounter _ := h.timerCounter
  dividers hname := by simp at hname
  lengthCounter hname := by simp at hname
  sequencePosition _ := h.sequencePosition
  envelopeStart hname := by simp at hname
  sweepReload hname := by simp at hname

theorem SettingsKept.writes {q r : Square} (h : SettingsKept q r) (n : SquareId) : SquareWrites n "TICK" q r where
  enabled _ := h.enabled
  control _ := ⟨h.duty, h.lengthHalt, h.constantVolume, h.volume⟩
  sweep _ := ⟨h.sweepEnabled, h.sweepPeriod, h.sweepNegate, h.sweepShift⟩
  timerPeriod hname := by simp at hname
  timerCounter hname := by simp at hname
  dividers hname := by simp at hname
  lengthCounter hname := by simp at hname
  sequencePosition hname := by simp at hname
  envelopeStart hname := by simp at hname
  sweepReload hname := by simp at hname

/-- A write of channel `m` writes no field of the other channel. -/
theorem setSquare_writes {s : State} {m : SquareId} {name : String} {q : Square}
    (h : SquareWrites m name (s.square m) q) (n : SquareId) :
    SquareWrites n name (s.square n) ((s.setSquare m q).square n) := by
  cases m with
  | one =>
    cases n with
    | one => exact h
    | two => exact .refl _ _ _
  | two =>
    cases n with
    | one => exact .refl _ _ _
    | two => exact h

/-- A 5-step $4017 write does to the channels what the clocks of a step that sends both do. -/
theorem exec_wrFrame_kept {mode : FrameMode} {inhibit : Bool} {s t : State}
    (h : exec (.wrFrame mode inhibit) s = .next t) :
    (∀ n, SquareKept (s.square n) (t.square n)) ∧ TriangleKept s.tri t.tri := by
  cases h
  cases mode with
  | fourStep => exact ⟨fun n => by cases n <;> exact .refl _, .refl _⟩
  | fiveStep =>
    obtain ⟨hsq1, hsq2, htri⟩ := sendClocks_kept stepQH (s.setFs ⟨.fiveStep, 0, 0, inhibit⟩)
    refine ⟨fun n => ?_, htri⟩
    cases n with
    | one => exact hsq1
    | two => exact hsq2

theorem exec_squareWrites {i : Instr} {s t : State} (h : exec i s = .next t) (n : SquareId) :
    SquareWrites n i.mnemonic (s.square n) (t.square n) := by
  cases i with
  | wrSq1Ctrl =>
    cases h
    exact setSquare_writes (writeSquareCtrl_writes .one _ _ _ _ _) n
  | wrSq2Ctrl =>
    cases h
    exact setSquare_writes (writeSquareCtrl_writes .two _ _ _ _ _) n
  | wrSq1Sweep =>
    cases h
    exact setSquare_writes (writeSquareSweep_writes .one _ _ _ _ _) n
  | wrSq2Sweep =>
    cases h
    exact setSquare_writes (writeSquareSweep_writes .two _ _ _ _ _) n
  | wrSq1Tlo =>
    cases h
    exact setSquare_writes (writeSquareLow_writes .one _ _) n
  | wrSq2Tlo =>
    cases h
    exact setSquare_writes (writeSquareLow_writes .two _ _) n
  | wrSq1Thi =>
    cases h
    exact setSquare_writes (writeSquareHigh_writes .one _ _ _ _) n
  | wrSq2Thi =>
    cases h
    exact setSquare_writes (writeSquareHigh_writes .two _ _ _ _) n
  | wrStatus square1 square2 =>
    cases h
    cases n with
    | one => exact enableSquare_writes .one square1 s.sq1
    | two => exact enableSquare_writes .two square2 s.sq2
  | wrFrame =>
    obtain ⟨hkept, -⟩ := exec_wrFrame_kept h
    exact (hkept n).writes n
  | tick =>
    cases h
    exact (tickCycle_settingsKept s n).writes n
  | wrTriCtrl | wrTriTlo | wrTriThi | wrIgnored | rdStatus | rdZero | sample =>
    cases h
    cases n <;> exact .refl _ _ _

/-! ## Who writes the fields of the triangle (R42 to R50) -/

/-- The fields of the triangle that the operation `name` may not write are the same before and after. -/
structure TriangleWrites (name : String) (t u : Triangle) : Prop where
  enabled : name ∉ ["WR_STATUS"] → u.enabled = t.enabled
  control : name ∉ ["WR_TRI_CTRL"] → u.controlFlag = t.controlFlag ∧ u.linearReloadValue = t.linearReloadValue
  timerPeriod : name ∉ ["WR_TRI_TLO", "WR_TRI_THI"] → u.timerPeriod = t.timerPeriod
  timerCounter : name ∉ ["TICK"] → u.timerCounter = t.timerCounter
  linearCounter : name ∉ ["WR_FRAME", "TICK"] → u.linearCounter = t.linearCounter
  lengthCounter : name ∉ ["WR_TRI_THI", "WR_STATUS", "WR_FRAME", "TICK"] → u.lengthCounter = t.lengthCounter
  sequencePosition : name ∉ ["WR_TRI_THI", "TICK"] → u.sequencePosition = t.sequencePosition
  linearReload : name ∉ ["WR_TRI_THI", "WR_FRAME", "TICK"] → u.linearReload = t.linearReload

theorem TriangleWrites.refl (name : String) (t : Triangle) : TriangleWrites name t t := by constructor <;> simp

theorem exec_triangleWrites {i : Instr} {s t : State} (h : exec i s = .next t) :
    TriangleWrites i.mnemonic s.tri t.tri := by
  cases i with
  | wrTriCtrl | wrTriTlo | wrTriThi =>
    cases h
    constructor <;> simp [Instr.mnemonic]
  | wrStatus =>
    cases h
    constructor <;> simp [Instr.mnemonic, enableTriangle]
  | wrFrame =>
    obtain ⟨-, hkept⟩ := exec_wrFrame_kept h
    constructor <;> simp [Instr.mnemonic, hkept.enabled, hkept.controlFlag, hkept.linearReloadValue,
      hkept.timerPeriod, hkept.timerCounter, hkept.sequencePosition]
  | tick =>
    have hkept := tickCycle_tri_kept s
    cases h
    constructor <;> simp [Instr.mnemonic, hkept.enabled, hkept.controlFlag, hkept.linearReloadValue,
      hkept.timerPeriod, triangleTimerClock]
  | wrSq1Ctrl | wrSq1Sweep | wrSq1Tlo | wrSq1Thi | wrSq2Ctrl | wrSq2Sweep | wrSq2Tlo | wrSq2Thi | wrIgnored
  | rdStatus | rdZero | sample =>
    cases h
    exact .refl _ _

/-! ## Who writes the rest of the state (R51 to R57) -/

/-- The fields of the sequencer, of the global state and of the host interface that the operation `name` may not
write are the same before and after. -/
structure RestWrites (name : String) (s t : State) : Prop where
  pending : t.pending = s.pending
  outputs : name ∉ ["RD_STATUS", "RD_ZERO", "TICK", "SAMPLE"] → t.outputs = s.outputs
  stubs : name ∉ ["WR_STATUS"] → t.apu.noiseEnabled = s.apu.noiseEnabled ∧ t.apu.dmcEnabled = s.apu.dmcEnabled
  mode : name ∉ ["WR_FRAME"] → t.fs.mode = s.fs.mode ∧ t.fs.frameIrqInhibit = s.fs.frameIrqInhibit
  time : name ∉ ["TICK"] → t.apu.apuParity = s.apu.apuParity ∧ t.apu.sampleCounter = s.apu.sampleCounter
  sequence : name ∉ ["WR_FRAME", "TICK"] →
    t.fs.stepIndex = s.fs.stepIndex ∧ t.fs.cycleCounter = s.fs.cycleCounter

theorem exec_restWrites {i : Instr} {s t : State} (h : exec i s = .next t) : RestWrites i.mnemonic s t := by
  cases i with
  | wrSq1Ctrl | wrSq1Sweep | wrSq1Tlo | wrSq1Thi | wrSq2Ctrl | wrSq2Sweep | wrSq2Tlo | wrSq2Thi
  | wrTriCtrl | wrTriTlo | wrTriThi | wrStatus | wrIgnored | rdStatus | rdZero | sample =>
    cases h
    constructor <;> simp [Instr.mnemonic]
  | wrFrame mode inhibit =>
    obtain ⟨hkept, -⟩ := exec_wrFrame_timeKept h
    have hapu : t.apu = s.apu ∧ t.pending = s.pending := by
      cases h
      cases mode <;> exact ⟨rfl, rfl⟩
    obtain ⟨hapu, hpending⟩ := hapu
    constructor <;> simp [Instr.mnemonic, hpending, hapu, hkept.outputs]
  | tick =>
    have hmode := frameTick_fs_kept (timerStep s)
    cases h
    rw [← tickCycle_fs, timerStep_fs] at hmode
    constructor <;> simp [Instr.mnemonic, tickCycle_pending_eq, tickCycle_apu, hmode]

/-- Settles O55, unit by unit (`exec_squareWrites`, `exec_triangleWrites`, `exec_restWrites`). -/
theorem fieldsChangeOnlyByTheirWriters : Obligations.FieldsChangeOnlyByTheirWriters := by
  unfold Obligations.FieldsChangeOnlyByTheirWriters
  intro i s t h
  have hsq1 := exec_squareWrites h .one
  have hsq2 := exec_squareWrites h .two
  have htri := exec_triangleWrites h
  have hrest := exec_restWrites h
  refine ⟨exec_config h, hrest.pending, hrest.outputs,
    fun hi => ⟨hsq1.enabled hi, hsq2.enabled hi, htri.enabled hi, hrest.stubs hi⟩, hrest.mode, hsq1.control,
    hsq2.control, hsq1.sweep, hsq2.sweep, htri.control, hsq1.timerPeriod, hsq2.timerPeriod, htri.timerPeriod,
    fun hi => ⟨hsq1.timerCounter hi, hsq2.timerCounter hi, htri.timerCounter hi, hrest.time hi⟩, fun hi => ?dividers,
    hsq1.lengthCounter, hsq2.lengthCounter, htri.lengthCounter, hsq1.sequencePosition, hsq2.sequencePosition,
    htri.sequencePosition, hsq1.envelopeStart, hsq2.envelopeStart, hsq1.sweepReload, hsq2.sweepReload,
    htri.linearReload⟩
  case dividers =>
    obtain ⟨hdivider1, hdecay1, hsweep1⟩ := hsq1.dividers hi
    obtain ⟨hdivider2, hdecay2, hsweep2⟩ := hsq2.dividers hi
    exact ⟨hdivider1, hdivider2, hdecay1, hdecay2, hsweep1, hsweep2, htri.linearCounter hi, hrest.sequence hi⟩

/-! ## A length counter rises by its own high-byte write alone (R201) -/

theorem gateLength_le (enabled : Bool) (counter : BitVec 8) :
    (gateLength enabled counter).toNat ≤ counter.toNat := by
  cases enabled with
  | false => exact Nat.zero_le _
  | true => exact Nat.le_refl _

theorem tickCycle_square_lengthCounter_le (s : State) (n : SquareId) :
    ((tickCycle s).square n).lengthCounter.toNat ≤ (s.square n).lengthCounter.toNat := by
  by_cases hparity : s.apu.apuParity = 1#1
  · exact (tickCycle_square_kept_odd hparity n).lengthCounter
  · exact (tickCycle_square_kept_even hparity n).lengthCounter

theorem exec_square_lengthCounter_le {i : Instr} {s t : State} (h : exec i s = .next t) (n : SquareId)
    (hname : i.mnemonic ≠ n.thiName) : (t.square n).lengthCounter.toNat ≤ (s.square n).lengthCounter.toNat := by
  by_cases hother : i.mnemonic ∈ ["WR_STATUS", "WR_FRAME", "TICK"]
  · cases i with
    | wrStatus =>
      cases h
      cases n <;> exact gateLength_le _ _
    | wrFrame =>
      obtain ⟨hkept, -⟩ := exec_wrFrame_kept h
      exact (hkept n).lengthCounter
    | tick =>
      cases h
      exact tickCycle_square_lengthCounter_le s n
    | _ => simp [Instr.mnemonic] at hother
  · have hkept := (exec_squareWrites h n).lengthCounter (by simpa [hname] using hother)
    rw [hkept]

theorem exec_tri_lengthCounter_le {i : Instr} {s t : State} (h : exec i s = .next t)
    (hname : i.mnemonic ≠ "WR_TRI_THI") : t.tri.lengthCounter.toNat ≤ s.tri.lengthCounter.toNat := by
  by_cases hother : i.mnemonic ∈ ["WR_STATUS", "WR_FRAME", "TICK"]
  · cases i with
    | wrStatus =>
      cases h
      exact gateLength_le _ _
    | wrFrame =>
      obtain ⟨-, hkept⟩ := exec_wrFrame_kept h
      exact hkept.lengthCounter
    | tick =>
      cases h
      exact (tickCycle_tri_kept s).lengthCounter
    | _ => simp [Instr.mnemonic] at hother
  · have hkept := (exec_triangleWrites h).lengthCounter (by simpa [hname] using hother)
    rw [hkept]

/-- Settles O39: besides the high-byte write only a $4015 write, a $4017 write and a TICK write the counter
(`exec_squareWrites`), and none of these raises it. -/
theorem lengthNeverRisesBetweenLoads : Obligations.LengthNeverRisesBetweenLoads := by
  unfold Obligations.LengthNeverRisesBetweenLoads
  exact fun _ _ _ h => ⟨exec_square_lengthCounter_le h .one, exec_square_lengthCounter_le h .two,
    exec_tri_lengthCounter_le h⟩

end Sys2Proof.Machine
end

section
/-!
PROOFS. Isolation: the three flags that no rule reads (10_state.md R54, R56) and the channels among each other
(40_register_write.md R105, 43_frame_units.md R191, 44_frame_sequencer.md R224). Two states related in a way that the
stages of a TICK keep are related after it, so each statement is about one relation.
-/

namespace Sys2Proof.Machine

/-! ## Relations that a TICK keeps -/

/-- A relation between two states that agree on the next frame step, kept by everything a TICK is made of. -/
structure TickSimulation (R : State → State → Prop) : Prop where
  config {s t : State} : R s t → t.config = s.config
  mode {s t : State} : R s t → t.fs.mode = s.fs.mode
  stepIndex {s t : State} : R s t → t.fs.stepIndex = s.fs.stepIndex
  cycleCounter {s t : State} : R s t → t.fs.cycleCounter = s.fs.cycleCounter
  timerStep {s t : State} : R s t → R (timerStep s) (timerStep t)
  countCycle {s t : State} : R s t → R (countCycle s) (countCycle t)
  halfFrame {s t : State} : R s t → R (halfFrame s) (halfFrame t)
  quarterFrame {s t : State} : R s t → R (quarterFrame s) (quarterFrame t)
  advance {s t : State} : R s t → R (s.setFs (advanceStep s.fs)) (t.setFs (advanceStep t.fs))
  sampleStep {s t : State} : R s t → R (sampleStep s) (sampleStep t)

theorem TickSimulation.sendClocks {R : State → State → Prop} (hR : TickSimulation R) (a : FrameAction) {s t : State}
    (h : R s t) : R (sendClocks a s) (sendClocks a t) := by
  rcases a with ⟨_ | _, _ | _⟩
  · exact h
  · exact hR.halfFrame h
  · exact hR.quarterFrame h
  · exact hR.quarterFrame (hR.halfFrame h)

theorem TickSimulation.frameTick {R : State → State → Prop} (hR : TickSimulation R) {s t : State} (h : R s t) :
    R (frameTick s) (frameTick t) := by
  have hcounted := hR.countCycle h
  unfold Machine.frameTick
  rw [hR.config h, hR.mode h, hR.stepIndex h, hR.cycleCounter h]
  split
  · split
    · exact hR.advance (hR.sendClocks _ hcounted)
    · exact hcounted
  · exact hcounted

theorem TickSimulation.tickCycle {R : State → State → Prop} (hR : TickSimulation R) {s t : State} (h : R s t) :
    R (tickCycle s) (tickCycle t) :=
  hR.sampleStep (hR.frameTick (hR.timerStep h))

/-- The timer stage as one update of the state. -/
theorem timerStep_eq (s : State) :
    timerStep s =
      { s with
        sq1 := if s.apu.apuParity = 1#1 then squareTimerClock s.sq1 else s.sq1
        sq2 := if s.apu.apuParity = 1#1 then squareTimerClock s.sq2 else s.sq2
        tri := triangleTimerClock s.tri
        apu := { s.apu with apuParity := 1#1 - s.apu.apuParity } } := by
  rw [← timerStep_sq1, ← timerStep_sq2, ← timerStep_tri, ← timerStep_apu]
  unfold timerStep
  split
  · rfl
  · rfl

/-! ## The flags that no rule reads (R54, R56) -/

/-- The second state is the first with other values in the three flags. -/
def StubsDiffer (s t : State) : Prop := ∃ noise dmc inhibit, t = withStubs s noise dmc inhibit

theorem advanceStep_frameIrqInhibit_irrelevant (f : FrameSequencer) (inhibit : Bool) :
    advanceStep { f with frameIrqInhibit := inhibit } = { advanceStep f with frameIrqInhibit := inhibit } := by
  unfold advanceStep
  simp only
  split
  · rfl
  · rfl

theorem stubsDiffer_tickSimulation : TickSimulation StubsDiffer where
  config := by rintro s _ ⟨_, _, _, rfl⟩; rfl
  mode := by rintro s _ ⟨_, _, _, rfl⟩; rfl
  stepIndex := by rintro s _ ⟨_, _, _, rfl⟩; rfl
  cycleCounter := by rintro s _ ⟨_, _, _, rfl⟩; rfl
  timerStep := by
    rintro s _ ⟨noise, dmc, inhibit, rfl⟩
    rw [timerStep_eq, timerStep_eq]
    exact ⟨noise, dmc, inhibit, rfl⟩
  countCycle := by rintro s _ ⟨noise, dmc, inhibit, rfl⟩; exact ⟨noise, dmc, inhibit, rfl⟩
  halfFrame := by rintro s _ ⟨noise, dmc, inhibit, rfl⟩; exact ⟨noise, dmc, inhibit, rfl⟩
  quarterFrame := by rintro s _ ⟨noise, dmc, inhibit, rfl⟩; exact ⟨noise, dmc, inhibit, rfl⟩
  advance := by
    rintro s _ ⟨noise, dmc, inhibit, rfl⟩
    refine ⟨noise, dmc, inhibit, ?_⟩
    rw [withStubs, advanceStep_frameIrqInhibit_irrelevant]
    rfl
  sampleStep := by rintro s _ ⟨noise, dmc, inhibit, rfl⟩; exact ⟨noise, dmc, inhibit, rfl⟩

/-- Settles O56, by the cases of the operation: a TICK keeps the relation `StubsDiffer`, and no other operation reads
one of the flags. -/
theorem stubFlagsAreReadByNothing : Obligations.StubFlagsAreReadByNothing := by
  unfold Obligations.StubFlagsAreReadByNothing
  intro i s t noise dmc inhibit h
  cases i with
  | tick =>
    cases h
    obtain ⟨noise', dmc', inhibit', htick⟩ := stubsDiffer_tickSimulation.tickCycle ⟨noise, dmc, inhibit, rfl⟩
    exact ⟨noise', dmc', inhibit', congrArg Host.Outcome.next htick⟩
  | wrStatus _ _ _ noise' dmc' =>
    cases h
    exact ⟨noise', dmc', inhibit, rfl⟩
  | wrFrame mode inhibit' =>
    cases h
    cases mode with
    | fourStep => exact ⟨noise, dmc, inhibit', rfl⟩
    | fiveStep => exact ⟨noise, dmc, inhibit', rfl⟩
  | wrSq1Ctrl | wrSq1Sweep | wrSq1Tlo | wrSq1Thi | wrSq2Ctrl | wrSq2Sweep | wrSq2Tlo | wrSq2Thi | wrTriCtrl
  | wrTriTlo | wrTriThi | wrIgnored | rdStatus | rdZero | sample =>
    cases h
    exact ⟨noise, dmc, inhibit, rfl⟩

/-! ## The channels among each other (R105, R191, R224) -/

/-- One of the three channels. -/
inductive Channel where
  | square (n : SquareId)
  | triangle

/-- Two states agree on everything but one channel and the values already handed back. -/
structure AgreeOutside (c : Channel) (s t : State) : Prop where
  square : ∀ n, c ≠ .square n → t.square n = s.square n
  tri : c ≠ .triangle → t.tri = s.tri
  fs : t.fs = s.fs
  apu : t.apu = s.apu
  config : t.config = s.config
  pending : t.pending = s.pending

theorem agreeOutsideSquare1_iff {s t : State} : AgreeOutsideSquare1 s t ↔ AgreeOutside (.square .one) s t := by
  constructor
  · rintro ⟨hsq2, htri, hfs, hapu, hconfig, hpending⟩
    refine ⟨fun n hn => ?_, fun _ => htri.symm, hfs.symm, hapu.symm, hconfig.symm, hpending.symm⟩
    cases n with
    | one => exact absurd rfl hn
    | two => exact hsq2.symm
  · rintro ⟨hsquare, htri, hfs, hapu, hconfig, hpending⟩
    exact ⟨(hsquare .two nofun).symm, (htri nofun).symm, hfs.symm, hapu.symm, hconfig.symm, hpending.symm⟩

theorem agreeOutsideSquare2_iff {s t : State} : AgreeOutsideSquare2 s t ↔ AgreeOutside (.square .two) s t := by
  constructor
  · rintro ⟨hsq1, htri, hfs, hapu, hconfig, hpending⟩
    refine ⟨fun n hn => ?_, fun _ => htri.symm, hfs.symm, hapu.symm, hconfig.symm, hpending.symm⟩
    cases n with
    | one => exact hsq1.symm
    | two => exact absurd rfl hn
  · rintro ⟨hsquare, htri, hfs, hapu, hconfig, hpending⟩
    exact ⟨(hsquare .one nofun).symm, (htri nofun).symm, hfs.symm, hapu.symm, hconfig.symm, hpending.symm⟩

theorem agreeOutsideTriangle_iff {s t : State} : AgreeOutsideTriangle s t ↔ AgreeOutside .triangle s t := by
  constructor
  · rintro ⟨hsq1, hsq2, hfs, hapu, hconfig, hpending⟩
    refine ⟨fun n _ => ?_, fun hn => absurd rfl hn, hfs.symm, hapu.symm, hconfig.symm, hpending.symm⟩
    cases n with
    | one => exact hsq1.symm
    | two => exact hsq2.symm
  · rintro ⟨hsquare, -, hfs, hapu, hconfig, hpending⟩
    exact ⟨(hsquare .one nofun).symm, (hsquare .two nofun).symm, hfs.symm, hapu.symm, hconfig.symm, hpending.symm⟩

theorem AgreeOutside.sq1 {c : Channel} {s t : State} (h : AgreeOutside c s t) (hc : c ≠ .square .one) :
    t.sq1 = s.sq1 := h.square .one hc

theorem AgreeOutside.sq2 {c : Channel} {s t : State} (h : AgreeOutside c s t) (hc : c ≠ .square .two) :
    t.sq2 = s.sq2 := h.square .two hc

theorem halfFrame_square (s : State) (n : SquareId) :
    (halfFrame s).square n = sweepClock n (squareLengthClock (s.square n)) := by cases n <;> rfl

theorem quarterFrame_square (s : State) (n : SquareId) :
    (quarterFrame s).square n = envelopeClock (s.square n) := by cases n <;> rfl

theorem setFs_square (s : State) (f : FrameSequencer) (n : SquareId) : (s.setFs f).square n = s.square n := by
  cases n <;> rfl

theorem sampleStep_square (s : State) (n : SquareId) : (sampleStep s).square n = s.square n := by cases n <;> rfl

theorem AgreeOutside.setFs {c : Channel} {s t : State} (h : AgreeOutside c s t) {f g : FrameSequencer} (hfs : g = f) :
    AgreeOutside c (s.setFs f) (t.setFs g) where
  square n hn := by rw [setFs_square, setFs_square, h.square n hn]
  tri := h.tri
  fs := hfs
  apu := h.apu
  config := h.config
  pending := h.pending

theorem AgreeOutside.setSquare {c : Channel} {s t : State} (h : AgreeOutside c s t) (m : SquareId) {q r : Square}
    (hq : c ≠ .square m → r = q) : AgreeOutside c (s.setSquare m q) (t.setSquare m r) := by
  constructor
  case square =>
    intro n hn
    cases m with
    | one =>
      cases n with
      | one => exact hq hn
      | two => exact h.square .two hn
    | two =>
      cases n with
      | one => exact h.square .one hn
      | two => exact hq hn
  case tri => simpa using h.tri
  case fs => simpa using h.fs
  case apu => simpa using h.apu
  case config => simpa using h.config
  case pending => simpa using h.pending

theorem AgreeOutside.setTri {c : Channel} {s t : State} (h : AgreeOutside c s t) {u v : Triangle}
    (htri : c ≠ .triangle → v = u) : AgreeOutside c (s.setTri u) (t.setTri v) where
  square n hn := by
    have hn := h.square n hn
    cases n <;> exact hn
  tri := htri
  fs := h.fs
  apu := h.apu
  config := h.config
  pending := h.pending

theorem AgreeOutside.respond {c : Channel} {s t : State} (h : AgreeOutside c s t) (o p : Output) :
    AgreeOutside c (s.respond o) (t.respond p) where
  square n hn := by
    have hn := h.square n hn
    cases n <;> exact hn
  tri := h.tri
  fs := h.fs
  apu := h.apu
  config := h.config
  pending := h.pending

theorem agreeOutside_tickSimulation (c : Channel) : TickSimulation (AgreeOutside c) where
  config h := h.config
  mode h := by rw [h.fs]
  stepIndex h := by rw [h.fs]
  cycleCounter h := by rw [h.fs]
  timerStep h :=
    { square := fun n hn => by rw [timerStep_square, timerStep_square, h.apu, h.square n hn]
      tri := fun hn => by rw [timerStep_tri, timerStep_tri, h.tri hn]
      fs := by rw [timerStep_fs, timerStep_fs, h.fs]
      apu := by rw [timerStep_apu, timerStep_apu, h.apu]
      config := by rw [timerStep_config, timerStep_config, h.config]
      pending := by rw [timerStep_pending, timerStep_pending, h.pending] }
  countCycle h := h.setFs (by rw [h.fs])
  halfFrame h :=
    { square := fun n hn => by rw [halfFrame_square, halfFrame_square, h.square n hn]
      tri := fun hn => congrArg triangleLengthClock (h.tri hn)
      fs := h.fs
      apu := h.apu
      config := h.config
      pending := h.pending }
  quarterFrame h :=
    { square := fun n hn => by rw [quarterFrame_square, quarterFrame_square, h.square n hn]
      tri := fun hn => congrArg linearClock (h.tri hn)
      fs := h.fs
      apu := h.apu
      config := h.config
      pending := h.pending }
  advance h := h.setFs (by rw [h.fs])
  sampleStep h :=
    { square := fun n hn => by rw [sampleStep_square, sampleStep_square, h.square n hn]
      tri := h.tri
      fs := h.fs
      apu := by rw [sampleStep_apu, sampleStep_apu, h.apu, h.config]
      config := h.config
      pending := h.pending }

theorem AgreeOutside.execWrStatus {c : Channel} {s t : State} (h : AgreeOutside c s t)
    {square1 square2 triangle noise dmc : Bool} {s' t' : State}
    (hs : exec (.wrStatus square1 square2 triangle noise dmc) s = .next s')
    (ht : exec (.wrStatus square1 square2 triangle noise dmc) t = .next t') : AgreeOutside c s' t' := by
  cases hs
  cases ht
  constructor
  case square =>
    intro n hn
    cases n with
    | one => exact congrArg (enableSquare square1) (h.sq1 hn)
    | two => exact congrArg (enableSquare square2) (h.sq2 hn)
  case tri => exact fun hn => congrArg (enableTriangle triangle) (h.tri hn)
  case fs => exact h.fs
  case apu => simp only [h.apu]
  case config => exact h.config
  case pending => exact h.pending

/-- No operation brings a difference out of the channel it is in. -/
theorem exec_agreeOutside {c : Channel} {i : Instr} {s t s' t' : State} (h : AgreeOutside c s t)
    (hs : exec i s = .next s') (ht : exec i t = .next t') : AgreeOutside c s' t' := by
  cases i with
  | wrSq1Ctrl | wrSq1Sweep | wrSq1Tlo =>
    cases hs
    cases ht
    exact h.setSquare .one fun hn => by rw [h.sq1 hn]
  | wrSq2Ctrl | wrSq2Sweep | wrSq2Tlo =>
    cases hs
    cases ht
    exact h.setSquare .two fun hn => by rw [h.sq2 hn]
  | wrSq1Thi =>
    cases hs
    cases ht
    exact h.setSquare .one fun hn => by rw [h.sq1 hn, h.config]
  | wrSq2Thi =>
    cases hs
    cases ht
    exact h.setSquare .two fun hn => by rw [h.sq2 hn, h.config]
  | wrTriCtrl | wrTriTlo | wrTriThi =>
    cases hs
    cases ht
    exact h.setTri fun hn => by simp only [h.tri hn, h.config]
  | wrStatus => exact h.execWrStatus hs ht
  | wrFrame mode inhibit =>
    have hrestarted := h.setFs (rfl : (⟨mode, 0, 0, inhibit⟩ : FrameSequencer) = _)
    cases hs
    cases ht
    cases mode with
    | fourStep => exact hrestarted
    | fiveStep => exact (agreeOutside_tickSimulation c).sendClocks stepQH hrestarted
  | wrIgnored =>
    cases hs
    cases ht
    exact h
  | rdStatus | rdZero | sample =>
    cases hs
    cases ht
    exact h.respond _ _
  | tick =>
    cases hs
    cases ht
    exact (agreeOutside_tickSimulation c).tickCycle h

/-- Settles O57: `exec_agreeOutside` for each of the three channels. -/
theorem channelsDoNotInfluenceEachOther : Obligations.ChannelsDoNotInfluenceEachOther := by
  unfold Obligations.ChannelsDoNotInfluenceEachOther
  intro i s1 s2 t1 t2 h1 h2
  rw [agreeOutsideSquare1_iff, agreeOutsideSquare1_iff, agreeOutsideSquare2_iff, agreeOutsideSquare2_iff,
    agreeOutsideTriangle_iff, agreeOutsideTriangle_iff]
  exact ⟨fun h => exec_agreeOutside h h1 h2, fun h => exec_agreeOutside h h1 h2, fun h => exec_agreeOutside h h1 h2⟩

end Sys2Proof.Machine
end
